-- ==== Sys2Proof/Word.lean ====
section
/-! DEFINITION. The word types: bytes, the two formats of an encoded instruction (R80), and the cells of the device's register
space. -/

namespace Sys2Proof

/-- A byte is 8 bits, bit 7 the most significant (R11). -/
abbrev Byte := BitVec 8

/-- One payload: a list of bytes in index order (R63). -/
abbrev Payload := List Byte

/-- An encoded instruction in one of the two formats of R80: a bus command byte (`BUS8`, R85) or a host operation word
(`HOST12`, R81). -/
inductive Code where
  | bus (b : Byte)
  | host (w : BitVec 12)
  deriving DecidableEq, Repr

/-- The eight bus commands of R86, as the device decodes them; a register access carries the 5-bit address (R85). -/
inductive BusCmd where
  | readRegister (addr : BitVec 5)
  | writeRegister (addr : BitVec 5)
  | readRxPayload
  | writeTxPayload
  | flushTx
  | flushRx
  | reuseTxPayload
  | nop
  deriving DecidableEq, Repr

/-- The device's register space (R36, R60) as (cell, byte) pairs; a cell is a byte of a register. The canonical form is
`Memory.wf`. -/
abbrev Memory := List Host.Cell

end Sys2Proof
end

