-- ==== Sys2Proof/Config.lean ====
section
/-! DEFINITION. What is fixed for one engine (R8), one record: the parameters the document fixes (R9) and those it leaves open (R10);
the plain data of the environment; and the free values, opaque constants nothing can evaluate. -/

namespace Sys2Proof

/-! ## The configuration record (R8) -/

/-- The parameters of R9, in its order, and those of R10. Which records are configurations of the engine is `Machine.configOk`. -/
structure Config where
  payloadMin : Nat
  payloadMax : Nat
  payloadDefault : Nat
  channelMax : Nat
  addrLen : Nat
  regAddrW : Nat
  regAddrMask : Byte
  tSettleTxUs : Nat
  tPwrupUs : Nat
  tCePulseUs : Nat
  tCePulseMinUs : Nat
  tTimeoutUs : Nat
  retxCount : Nat
  retxDelayUs : Nat
  bitDataReady : Fin 8
  bitDataSent : Fin 8
  bitMaxRt : Fin 8
  tSettleRxUs : Nat
  tPollUs : Nat
  timeW : Nat
  fill : Byte
  rxmodeBit : Fin 8
  powerBit : Fin 8
  clrDr : Byte
  clrDs : Byte
  clrMr : Byte
  clrAll : Byte
  initTable : List (BitVec 5 × Byte)
  lenW : Nat
  blockMax : Nat
  tCsnUs : Nat
  deriving DecidableEq, Repr

/-- `T_POLL_US` less one: the poll interval is OPEN (R10, D14), so it is a free value, and positive by construction. -/
opaque Config.openPoll : Nat

/-- The default `INIT_TABLE` of R151; its bytes are the spec's own choice (U7). -/
def Config.defaultInitTable : List (BitVec 5 × Byte) :=
  [(0x00, 0x08), (0x01, 0x3F), (0x02, 0x03), (0x03, 0x03), (0x04, 0x03), (0x05, 0x02), (0x06, 0x0F), (0x1C, 0x00), (0x1D, 0x00)]

/-- R9's values and R10's defaults, with the open `T_POLL_US` left free. -/
def Config.default : Config where
  payloadMin := 1
  payloadMax := 32
  payloadDefault := 32
  channelMax := 125
  addrLen := 5
  regAddrW := 5
  regAddrMask := 0x1F
  tSettleTxUs := 1000
  tPwrupUs := 5000
  tCePulseUs := 15
  tCePulseMinUs := 10
  tTimeoutUs := 100000
  retxCount := 3
  retxDelayUs := 250
  bitDataReady := 6
  bitDataSent := 5
  bitMaxRt := 4
  tSettleRxUs := 1000
  tPollUs := Config.openPoll + 1
  timeW := 64
  fill := 0xFF
  rxmodeBit := 0
  powerBit := 1
  clrDr := 0x40
  clrDs := 0x20
  clrMr := 0x10
  clrAll := 0x70
  initTable := Config.defaultInitTable
  lenW := 8
  blockMax := 32
  tCsnUs := 0

/-! ## The environment's plain data (R4) -/

/-- The three sticky flags of the device (R33, R34). -/
structure Flags where
  dataReady : Bool
  dataSent : Bool
  maxRt : Bool
  deriving DecidableEq, Repr, Inhabited

/-- What the device's radio did since the previous exchange: flags it set (R71: a flag changes only towards set), which queued
payloads it kept (one mark for each, oldest first; those past the marks stay), and which payloads arrived (R39). The transmit FIFO
gains a payload by WRITE_TX_PAYLOAD alone (R161); depth and removal are open (N7, log 6). -/
structure Radio where
  set : Flags
  txKept : List Bool
  rxKept : List Bool
  arrived : List Payload
  deriving DecidableEq, Repr, Inhabited

/-- The environment's part in one byte exchange: the byte the device returns (R66) and the radio activity before it. -/
structure DevAnswer where
  byte : Byte
  radio : Radio
  deriving DecidableEq, Repr, Inhabited

/-- The device as far as the engine reaches or assumes it (R36 to R39). -/
structure Device where
  regs : Memory
  flags : Flags
  txFifo : List Payload
  rxFifo : List Payload
  deriving DecidableEq, Repr, Inhabited

/-! ## Free values -/

/-- The device's part in the `n`-th exchange, where the state's script gives none: a draw from the device oracle (R66, U12). -/
opaque Config.deviceAnswer : Nat → DevAnswer

/-- By how much the `n`-th wait or time read exceeds its lower bound, where the state's script gives nothing (R217, U20). -/
opaque Config.delay : Nat → Nat

/-- A device about which nothing is known (R45, R236, U15, U16, U17). -/
opaque Config.freeDevice : Nat → Device

end Sys2Proof
end

