-- ==== Sys2Proof/Syntax.lean ====
section
/-! DEFINITION. The instructions: one constructor for each of the 19 rows of spec/opcode_table.json (R82, R86). -/

namespace Sys2Proof

/-- The instructions. The first eight are the bus commands of R86, each one framed transaction; a register access carries the
8-bit address operand of the Register Access Layer, which is masked to 5 bits before use (R62). The other eleven are the host
operations of R82; each carries the `arg` byte of its word (R81), which `TRANSMIT`, `SET_CHANNEL` and `SET_PAYLOAD_SIZE` use and
the others ignore. -/
inductive Instr where
  | readRegister (addr : Byte)
  | writeRegister (addr : Byte)
  | readRxPayload
  | writeTxPayload
  | flushTx
  | flushRx
  | reuseTxPayload
  | nop
  | init (arg : Byte)
  | setTxMode (arg : Byte)
  | setRxMode (arg : Byte)
  | transmit (arg : Byte)
  | receive (arg : Byte)
  | setChannel (arg : Byte)
  | setPayloadSize (arg : Byte)
  | setAddress (arg : Byte)
  | getStatus (arg : Byte)
  | powerUp (arg : Byte)
  | powerDown (arg : Byte)
  deriving DecidableEq, Repr

end Sys2Proof
end

