-- ==== Sys2Proof/WellFormed.lean ====
section
/-! DEFINITION. Which instructions an encoding can carry. -/

namespace Sys2Proof

/-- A register is identified by a 5-bit address (R60): an address operand with a bit above bit 4 has no encoding of its own; the
Register Access Layer masks it to one that has (R62, R87). Every other operand fits its field by its type. -/
def Instr.wellFormed : Instr → Bool
  | .readRegister addr => decide (addr.toNat < 32)
  | .writeRegister addr => decide (addr.toNat < 32)
  | .readRxPayload => true
  | .writeTxPayload => true
  | .flushTx => true
  | .flushRx => true
  | .reuseTxPayload => true
  | .nop => true
  | .init _ => true
  | .setTxMode _ => true
  | .setRxMode _ => true
  | .transmit _ => true
  | .receive _ => true
  | .setChannel _ => true
  | .setPayloadSize _ => true
  | .setAddress _ => true
  | .getStatus _ => true
  | .powerUp _ => true
  | .powerDown _ => true

end Sys2Proof
end

