-- ==== Sys2Proof/Decode.lean ====
section
/-! DEFINITION. Decoding and encoding of the two formats, `HOST12` (R81, R82) and `BUS8` (R85, R86). -/

namespace Sys2Proof

/-- Why a code is no instruction. -/
inductive Reject where
  /-- A host word whose `op` is 0xB to 0xF (R84). -/
  | reservedHostCode (w : BitVec 12)
  /-- A command byte outside R86's table (R88). -/
  | unlistedCommand (b : Byte)
  deriving DecidableEq, Repr

/-! ## Command bytes -/

/-- The command byte of a register read, `0x00 | (a & 0x1F)` (R87). -/
def readByte (a : Byte) : Byte := 0x00 ||| (a &&& 0x1F)

/-- The command byte of a register write, `0x20 | (a & 0x1F)` (R87). -/
def writeByte (a : Byte) : Byte := 0x20 ||| (a &&& 0x1F)

/-- The byte of a bus command (R86). -/
def busByte : BusCmd → Byte
  | .readRegister a => readByte (a.setWidth 8)
  | .writeRegister a => writeByte (a.setWidth 8)
  | .readRxPayload => 0x61
  | .writeTxPayload => 0xA0
  | .flushTx => 0xE1
  | .flushRx => 0xE2
  | .reuseTxPayload => 0xE3
  | .nop => 0xFF

/-- How the device reads a command byte (R85, R86); a byte outside the table is no command. -/
def decodeBus (b : Byte) : Option BusCmd :=
  if b.extractLsb' 5 3 = 0 then some (.readRegister (b.extractLsb' 0 5))
  else if b.extractLsb' 5 3 = 1 then some (.writeRegister (b.extractLsb' 0 5))
  else if b = 0x61 then some .readRxPayload
  else if b = 0xA0 then some .writeTxPayload
  else if b = 0xE1 then some .flushTx
  else if b = 0xE2 then some .flushRx
  else if b = 0xE3 then some .reuseTxPayload
  else if b = 0xFF then some .nop
  else none

/-- A bus command as an instruction; the 5-bit address becomes the address operand. -/
def instrOfBus : BusCmd → Instr
  | .readRegister a => .readRegister (a.setWidth 8)
  | .writeRegister a => .writeRegister (a.setWidth 8)
  | .readRxPayload => .readRxPayload
  | .writeTxPayload => .writeTxPayload
  | .flushTx => .flushTx
  | .flushRx => .flushRx
  | .reuseTxPayload => .reuseTxPayload
  | .nop => .nop

/-! ## Host words -/

/-- The operation code, bits 11:8 of a host word (R81). -/
def hostOp (w : BitVec 12) : BitVec 4 := w.extractLsb' 8 4

/-- The byte operand, bits 7:0 of a host word (R81). -/
def hostArg (w : BitVec 12) : Byte := w.extractLsb' 0 8

/-- A host word from its two fields (R81). -/
def hostWord (op : BitVec 4) (arg : Byte) : BitVec 12 := op ++ arg

/-- The operation a host word names (R82); codes 0xB to 0xF name none (R84). -/
def decodeHost (w : BitVec 12) : Option Instr :=
  if hostOp w = 0x0 then some (.init (hostArg w))
  else if hostOp w = 0x1 then some (.setTxMode (hostArg w))
  else if hostOp w = 0x2 then some (.setRxMode (hostArg w))
  else if hostOp w = 0x3 then some (.transmit (hostArg w))
  else if hostOp w = 0x4 then some (.receive (hostArg w))
  else if hostOp w = 0x5 then some (.setChannel (hostArg w))
  else if hostOp w = 0x6 then some (.setPayloadSize (hostArg w))
  else if hostOp w = 0x7 then some (.setAddress (hostArg w))
  else if hostOp w = 0x8 then some (.getStatus (hostArg w))
  else if hostOp w = 0x9 then some (.powerUp (hostArg w))
  else if hostOp w = 0xA then some (.powerDown (hostArg w))
  else none

/-! ## The decoder and the encoder -/

/-- The instruction a code stands for, or the reason it stands for none. -/
def decode : Code → Except Reject Instr
  | .bus b =>
    match decodeBus b with
    | some c => .ok (instrOfBus c)
    | none => .error (.unlistedCommand b)
  | .host w =>
    match decodeHost w with
    | some i => .ok i
    | none => .error (.reservedHostCode w)

/-- The code of an instruction, from the tables of R82 and R86; an address operand is masked to 5 bits (R62). -/
def encode : Instr → Code
  | .readRegister a => .bus (readByte a)
  | .writeRegister a => .bus (writeByte a)
  | .readRxPayload => .bus 0x61
  | .writeTxPayload => .bus 0xA0
  | .flushTx => .bus 0xE1
  | .flushRx => .bus 0xE2
  | .reuseTxPayload => .bus 0xE3
  | .nop => .bus 0xFF
  | .init arg => .host (hostWord 0x0 arg)
  | .setTxMode arg => .host (hostWord 0x1 arg)
  | .setRxMode arg => .host (hostWord 0x2 arg)
  | .transmit arg => .host (hostWord 0x3 arg)
  | .receive arg => .host (hostWord 0x4 arg)
  | .setChannel arg => .host (hostWord 0x5 arg)
  | .setPayloadSize arg => .host (hostWord 0x6 arg)
  | .setAddress arg => .host (hostWord 0x7 arg)
  | .getStatus arg => .host (hostWord 0x8 arg)
  | .powerUp arg => .host (hostWord 0x9 arg)
  | .powerDown arg => .host (hostWord 0xA arg)

/-! ## The host's table words -/

/-- The code of an instruction of the opcode table: `nbits` up to 8 is a bus command byte; a host word has 12 bits, which in
whole bytes is 16 (DESIGN CHOICE, log 21). -/
def codeOf (nbits w : Nat) : Option Code :=
  if nbits ≤ 8 then
    if w < 2 ^ 8 then some (.bus (BitVec.ofNat 8 w)) else none
  else if w < 2 ^ 12 then some (.host (BitVec.ofNat 12 w)) else none

/-- The instruction the decoder reads from a table word, none where it refuses. -/
def decodeTableWord (nbits w : Nat) : Option Instr :=
  match codeOf nbits w with
  | none => none
  | some c =>
    match decode c with
    | .ok i => some i
    | .error _ => none

end Sys2Proof
end

