-- ==== Sys2Proof/Machine/State.lean ====
section
/-! DEFINITION. The state as plain data: the engine's registers (R20), the inputs at the host port (R29, R214), the configuration
record (R8), and the environment, that is the device (R36 to R40), the time source (R218) and what it has yet to answer. -/

namespace Sys2Proof.Machine

/-- An event at the device port (R13). A byte exchange records the byte sent and the byte received, kept or not. -/
inductive Event where
  | sel
  | desel
  | ce1
  | ce0
  | x (sent received : Byte)
  | w (us : Nat)
  | t
  deriving DecidableEq, Repr

/-- The five modes (R25). -/
inductive Mode where
  | powerDown
  | standbyTxConfigured
  | standbyRxConfigured
  | activeTx
  | activeRx
  deriving DecidableEq, Repr

/-- The eleven host operations (R82), as the sequencer's position names them. -/
inductive HostOp where
  | init
  | setTxMode
  | setRxMode
  | transmit
  | receive
  | setChannel
  | setPayloadSize
  | setAddress
  | getStatus
  | powerUp
  | powerDown
  deriving DecidableEq, Repr

/-- The sequencer (R31): idle, or inside an operation. The phase inside an operation is not represented, because an operation is
one step (log 1). -/
inductive Seq where
  | idle
  | running (op : HostOp)
  deriving DecidableEq, Repr

/-- What the host does next at the host port (R214, R230, R231). -/
inductive HostMove where
  /-- Present a code with the block operand `data` for `HDATA` and, for a register call, its length `len` (R104, R105). -/
  | present (code : Code) (len : Fin 33) (data : Vector Byte 32)
  /-- Assert reset while the engine is idle (R230). -/
  | reset
  /-- Present a code and assert reset after `events` of the operation's events have happened (R231). -/
  | presentThenReset (code : Code) (len : Fin 33) (data : Vector Byte 32) (events : Nat)
  deriving DecidableEq, Repr

/-- Why the machine stops with a fault: never. The engine raises no exception and records no cause (R200), so there is no reason
to name; its failure outcomes are next states with `RESULT` = 0 (R201). -/
inductive Fault where
  deriving DecidableEq, Repr

/-- Why a step has no meaning. -/
inductive Refusal where
  /-- Raised by an arm of `exec` for an instruction that has no meaning yet; no arm does. Safe. -/
  | notModelled (mnemonic : String)
  /-- Raised by `step`: the code presented is no instruction (R84: the engine does not accept a reserved word, and a model refuses
  it; R88: an unlisted command byte is never emitted). Safe: nothing can be proved of such a step. -/
  | noInstruction (why : Reject)
  /-- Raised by `step`: a host operation other than INIT presented while `inited` = 0 (R236, D22, U2: a model refuses it). `exec` has
  the sequence the engine would run. Safe. -/
  | beforeInit
  /-- Raised by `step`: RECEIVE presented while the device's pipe-0 width register differs from `payload_size` (R239: RECEIVE is then
  undefined; U1: a model refuses it). `exec` has the sequence the engine would run, with a free device (log 9). Safe. -/
  | widthsDisagree
  /-- Raised by `step`: a request while `busy` = 1 is not seen, and a model has no step for it (R214, D29). Safe. -/
  | requestWhileBusy
  /-- Raised by `step`: the record violates R9, R10 or R150, so it is no configuration of the engine (U24). Safe. -/
  | notAConfiguration
  deriving DecidableEq, Repr

/-- The state. Names are the spec's (`payload_size`, `STATUS_L`, `RESULT`, `RBYTE`, `RXLEN`, `RXBUF`, `CE`, `CSN`, `busy`,
`inited`, `pwr_s`, `rx_s`, `seq`, `idx`, `t0`, `HDATA`) in lower camel case. -/
structure State where
  /-- R21. -/
  payloadSize : BitVec 6
  /-- R33. -/
  statusL : Byte
  /-- R27. -/
  result : Bool
  /-- R28. -/
  rbyte : Byte
  /-- R30. -/
  rxlen : BitVec 6
  /-- R30. -/
  rxbuf : Vector Byte 32
  /-- R22. -/
  ce : Bool
  /-- R23. -/
  csn : Bool
  /-- R32. -/
  busy : Bool
  /-- R26. -/
  inited : Bool
  /-- R24. -/
  pwrS : Bool
  /-- R24. -/
  rxS : Bool
  /-- R31. -/
  seq : Seq
  /-- R31. -/
  idx : BitVec 6
  /-- R31; an unbounded number of microseconds, as R219 allows (log 11). -/
  t0 : Nat
  /-- `HDATA`, an input (R29). -/
  hdata : Vector Byte 32
  /-- The length operand of a register call presented alone (R104; log 16). -/
  callLen : Fin 33
  /-- `in[0..k-1]`, the bytes the last transaction returned (R100; log 16). -/
  dataIn : List Byte
  /-- What the host will do next (log 17). -/
  host : List HostMove
  /-- The configuration record (R8). -/
  cfg : Config
  /-- The device (R36 to R39). -/
  dev : Device
  /-- The model's own: whether the device is taken to answer as R38(a), R34 and R106 to R113 assume (log 5). -/
  conforming : Bool
  /-- The model's own: the device's part in exchange number 0, 1, 2 and so on; past its end the part is free (log 4). -/
  answers : List DevAnswer
  /-- The model's own: how many exchanges were made. -/
  drawn : Nat
  /-- The elapsed time in microseconds (R218). -/
  now : Nat
  /-- The model's own: excess of wait or time read number 0, 1, 2 and so on; past its end it is free (log 11). -/
  delays : List Nat
  /-- The model's own: how many waits and time reads were made. -/
  ticks : Nat
  /-- The events at the device port, oldest first (R13; log 20). -/
  trace : List Event
  /-- The value of the MODE output after each write of `CE` or the shadows, with the length of the trace at that moment, oldest
  first (R25; log 20). -/
  modes : List (Nat × Mode)
  deriving DecidableEq, Repr

/-- The state right after reset. `payload_size` to `RESULT` are R45's values; the registers R45 leaves unspecified hold 0
(DESIGN CHOICE, log 2); the device holds what log 3 names (PRESUMED); nothing is presented. -/
def State.reset : State where
  payloadSize := BitVec.ofNat 6 Config.default.payloadDefault
  statusL := 0
  result := false
  rbyte := 0
  rxlen := 0
  rxbuf := Vector.replicate 32 0
  ce := false
  csn := true
  busy := false
  inited := false
  pwrS := false
  rxS := false
  seq := .idle
  idx := 0
  t0 := 0
  hdata := Vector.replicate 32 0
  callLen := 0
  dataIn := []
  host := []
  cfg := Config.default
  dev := { regs := [], flags := { dataReady := false, dataSent := false, maxRt := false }, txFifo := [], rxFifo := [] }
  conforming := false
  answers := []
  drawn := 0
  now := 0
  delays := []
  ticks := 0
  trace := []
  modes := []

end Sys2Proof.Machine
end

