-- ==== Sys2Proof/Machine/Operands.lean ====
section
/-! DEFINITION. Operand forms: the silent narrowing of `arg` (R83), the framing of a payload (R162), the masks of the
configuration register (R141), the register map (R36), and which records are configurations (R10, R150). -/

namespace Sys2Proof.Machine

/-! ## The byte operand (R83) -/

/-- `n = min(arg, payload_size)` of TRANSMIT (R162). -/
def transmitLen (arg : Byte) (payloadSize : BitVec 6) : Nat := min arg.toNat payloadSize.toNat

/-- `min(arg, 125)` of SET_CHANNEL (R190). -/
def channelOf (c : Config) (arg : Byte) : Byte := BitVec.ofNat 8 (min arg.toNat c.channelMax)

/-- `clamp(arg, 1, 32)` of SET_PAYLOAD_SIZE (R192). -/
def clampedSize (c : Config) (arg : Byte) : Nat := max c.payloadMin (min arg.toNat c.payloadMax)

/-! ## Block operands -/

/-- The data phase of WRITE_TX_PAYLOAD: `n` bytes of `HDATA`, then zeros up to the payload size (R162). -/
def framedPayload (hdata : Vector Byte 32) (n : Nat) (payloadSize : BitVec 6) : List Byte :=
  hdata.toList.take n ++ List.replicate (payloadSize.toNat - n) 0

/-- The address operand of SET_ADDRESS, `HDATA[0..4]` (R194). -/
def addressOf (c : Config) (hdata : Vector Byte 32) : List Byte := hdata.toList.take c.addrLen

/-- `RXBUF[i] <- in[0]`, `RXBUF[i+1] <- in[1]` and so on; the other bytes keep their contents (R172). -/
def storeFrom : Nat → List Byte → Vector Byte 32 → Vector Byte 32
  | _, [], buf => buf
  | i, b :: bs, buf => storeFrom (i + 1) bs (buf.setIfInBounds i b)

/-! ## Masks of the configuration register (R141) -/

/-- The byte with bit `i` set and no other. -/
def bitMask (i : Fin 8) : Byte := BitVec.ofNat 8 (2 ^ i.val)

/-- `RX`, the mask of the receive-mode bit. -/
def rxMask (c : Config) : Byte := bitMask c.rxmodeBit

/-- `PWR`, the mask of the power bit. -/
def pwrMask (c : Config) : Byte := bitMask c.powerBit

/-! ## The register map (R36) -/

/-- The reserved locations of the register space. -/
def reservedAddr (a : BitVec 5) : Bool :=
  (0x18 ≤ a.toNat && a.toNat ≤ 0x1B) || 0x1E ≤ a.toNat

/-- The width in bytes of a register, none where the source gives none (R36). -/
def regWidth (a : BitVec 5) : Option Nat :=
  if reservedAddr a then none
  else if 0x0B ≤ a.toNat && a.toNat ≤ 0x0F then none
  else if a = 0x0A || a = 0x10 then some 5
  else some 1

/-- The registers the engine writes (R36, fifth column, 0x07 apart): only of these may a stored byte be expected back (R38, N3; log 23). -/
def storesBytes (a : BitVec 5) : Bool :=
  a.toNat ≤ 0x06 || a = 0x0A || a = 0x10 || a = 0x11 || a = 0x1C || a = 0x1D

/-- The cell of byte `i` of the register at `a`. -/
def cellOf (a : BitVec 5) (i : Nat) : Nat := 32 * a.toNat + i

/-! ## Configurations -/

/-- The parameters the document fixes have its values (R9), the chip-enable pulse is long enough for the device (R247), and the
parameters that fix a format have the value the format has: `LEN_W` the width of R81's `arg`, `BLOCK_MAX` the count of R31, and a
`TIME_W` in which the timeout can be represented (log 15). -/
def fixedOk (c : Config) : Bool :=
  c.payloadMin == 1 && c.payloadMax == 32 && c.payloadDefault == 32 && c.channelMax == 125 && c.addrLen == 5 && c.regAddrW == 5
    && c.regAddrMask == 0x1F && c.tSettleTxUs == 1000 && c.tPwrupUs == 5000 && c.tCePulseUs == 15 && c.tCePulseMinUs == 10
    && decide (c.tCePulseMinUs ≤ c.tCePulseUs) && c.tTimeoutUs == 100000 && c.retxCount == 3 && c.retxDelayUs == 250
    && c.bitDataReady == 6 && c.bitDataSent == 5 && c.bitMaxRt == 4
    && c.lenW == 8 && c.blockMax == 32 && decide (c.tTimeoutUs < 2 ^ c.timeW)

/-- Whether the entry of register 0x04 selects the retransmit count and spacing of R9: the count in bits 3:0 and the spacing, in units
of 250 μs less one, in bits 7:4 (R150 (b); the layout is general knowledge, R151, PRESUMED, log 14). -/
def selectsRetransmit (c : Config) (v : Byte) : Bool :=
  (v.extractLsb' 0 4).toNat == c.retxCount && ((v.extractLsb' 4 4).toNat + 1) * 250 == c.retxDelayUs

/-- Whether the entry of register 0x02 enables pipes 0 and 1 and no other of the six (R150 (c); PRESUMED, log 14). -/
def enablesPipes01 (v : Byte) : Bool := v.extractLsb' 0 6 == 0x03

/-- Whether the entry of register 0x03 selects addresses of `ADDR_LEN` bytes: the length less two in bits 1:0 (R150 (d); PRESUMED, log
14). -/
def selectsAddrLen (c : Config) (v : Byte) : Bool := (v.extractLsb' 0 2).toNat + 2 == c.addrLen

/-- Whether an entry leaves dynamic payload length off: one for register 0x1C turns it on for none of the six pipes (R150 (e); PRESUMED,
log 14). -/
def leavesDynamicOff (e : BitVec 5 × Byte) : Bool := !(e.1 == 0x1C) || e.2.extractLsb' 0 6 == 0

/-- The constraints of R150, (a) to (g). -/
def initTableOk (c : Config) : Bool :=
  c.initTable.any (fun e => e.1 == 0x00 && !e.2.getLsbD c.rxmodeBit)
    && c.initTable.any (fun e => e.1 == 0x04 && selectsRetransmit c e.2)
    && c.initTable.any (fun e => e.1 == 0x02 && enablesPipes01 e.2)
    && c.initTable.any (fun e => e.1 == 0x03 && selectsAddrLen c e.2)
    && c.initTable.all leavesDynamicOff
    && c.initTable.all (fun e => !(e.1 == 0x07) && !(e.1 == 0x11) && !reservedAddr e.1)
    && decide (c.initTable.map Prod.fst).Nodup

/-- Whether a record is a configuration of the engine (R9, R10, R150, D9, U24). -/
def configOk (c : Config) : Bool :=
  fixedOk c && decide (0 < c.tSettleRxUs) && decide (0 < c.tPollUs) && decide (c.rxmodeBit ≠ c.powerBit) && initTableOk c

end Sys2Proof.Machine
end

