-- ==== Sys2Proof/Machine/Flags.lean ====
section
/-! DEFINITION. The status byte and its three flags (R33, R34), and the mode computed from `pwr_s`, `rx_s` and `CE` (R25). -/

namespace Sys2Proof.Machine

/-! ## Status bits (R33, R9) -/

def dataReadyBit (c : Config) (st : Byte) : Bool := st.getLsbD c.bitDataReady
def dataSentBit (c : Config) (st : Byte) : Bool := st.getLsbD c.bitDataSent
def maxRtBit (c : Config) (st : Byte) : Bool := st.getLsbD c.bitMaxRt

/-- A byte with bit `i` made `b`. -/
def putBit (v : Byte) (i : Fin 8) (b : Bool) : Byte := if b then v ||| bitMask i else v &&& ~~~(bitMask i)

/-- The status byte of a device with the flags `f`; its other bits have no meaning and come from `low` (R35). -/
def statusByte (c : Config) (f : Flags) (low : Byte) : Byte :=
  putBit (putBit (putBit low c.bitDataReady f.dataReady) c.bitDataSent f.dataSent) c.bitMaxRt f.maxRt

/-- The device sets flags; none is cleared (R71). -/
def orFlags (f g : Flags) : Flags where
  dataReady := f.dataReady || g.dataReady
  dataSent := f.dataSent || g.dataSent
  maxRt := f.maxRt || g.maxRt

/-- The flags after `v` is written to the status register: a 1 in a flag's bit clears it, a 0 leaves it (R37; PRESUMED, log 8). -/
def clearedBy (c : Config) (v : Byte) (f : Flags) : Flags where
  dataReady := f.dataReady && !dataReadyBit c v
  dataSent := f.dataSent && !dataSentBit c v
  maxRt := f.maxRt && !maxRtBit c v

/-! ## MODE (R25) -/

/-- The table of R25. -/
def modeOf (pwr rx ce : Bool) : Mode :=
  if !pwr then .powerDown
  else if ce then (if rx then .activeRx else .activeTx)
  else (if rx then .standbyRxConfigured else .standbyTxConfigured)

/-- The 3-bit code of a mode (R25). -/
def modeCode : Mode → BitVec 3
  | .powerDown => 0
  | .standbyTxConfigured => 1
  | .standbyRxConfigured => 2
  | .activeTx => 3
  | .activeRx => 4

/-- The MODE output (R25). -/
def State.mode (s : State) : Mode := modeOf s.pwrS s.rxS s.ce

end Sys2Proof.Machine
end

