-- ==== Sys2Proof/Machine/Ops.lean ====
section
/-! DEFINITION. The named operations every meaning is made of (R12): memory, lines, time, the byte exchange, the framed
transaction, the register calls, the beginning and the end of an operation, reset, and the host port. -/

namespace Sys2Proof.Machine

/-! ## The device's register space as memory -/

/-- What a cell that nothing has written reads as: the power-on value of the nRF24L01 (PRESUMED, log 3). -/
def Memory.unlisted (a : Nat) : Byte :=
  if a = cellOf 0x00 0 then 0x08
  else if a = cellOf 0x01 0 then 0x3F
  else if a = cellOf 0x02 0 then 0x03
  else if a = cellOf 0x03 0 then 0x03
  else if a = cellOf 0x04 0 then 0x03
  else if a = cellOf 0x05 0 then 0x02
  else if a = cellOf 0x06 0 then 0x0F
  else if cellOf 0x0A 0 ≤ a ∧ a < cellOf 0x0A 5 then 0xE7
  else if cellOf 0x0B 0 ≤ a ∧ a < cellOf 0x0B 5 then 0xC2
  else if a = cellOf 0x0C 0 then 0xC3
  else if a = cellOf 0x0D 0 then 0xC4
  else if a = cellOf 0x0E 0 then 0xC5
  else if a = cellOf 0x0F 0 then 0xC6
  else if cellOf 0x10 0 ≤ a ∧ a < cellOf 0x10 5 then 0xE7
  else if a = cellOf 0x17 0 then 0x11
  else 0

/-- The byte in a cell. -/
def Memory.read : Memory → Nat → Byte
  | [], a => Memory.unlisted a
  | (b, w) :: m, a => if a = b then w else Memory.read m a

/-- Store a byte in a cell, keeping the canonical form. -/
def Memory.write : Memory → Nat → Byte → Memory
  | [], a, v => if v = Memory.unlisted a then [] else [(a, v)]
  | (b, w) :: m, a, v =>
    if a < b then (if v = Memory.unlisted a then (b, w) :: m else (a, v) :: (b, w) :: m)
    else if a = b then (if v = Memory.unlisted a then m else (a, v) :: m)
    else (b, w) :: Memory.write m a v

/-- Store the bytes of a list in consecutive cells. -/
def Memory.writeAll : Memory → Nat → List Byte → Memory
  | m, _, [] => m
  | m, a, v :: vs => Memory.writeAll (Memory.write m a v) (a + 1) vs

/-- The canonical form from cell `lo` on: cells strictly rising, none equal to what an unlisted cell reads as. -/
def Memory.wfFrom : Nat → Memory → Bool
  | _, [] => true
  | lo, (b, w) :: m => decide (lo ≤ b) && decide (w ≠ Memory.unlisted b) && Memory.wfFrom (b + 1) m

/-- The canonical form. -/
def Memory.wf (m : Memory) : Bool := Memory.wfFrom 0 m

/-- The canonical form of any list of cells. -/
def Memory.canonical (m : Memory) : Memory := m.foldr (fun c acc => Memory.write acc c.1 c.2) []

/-- Byte `i` of `DevReg[a]` (R36). -/
def State.devReg (s : State) (a : BitVec 5) (i : Nat) : Byte := Memory.read s.dev.regs (cellOf a i)

/-! ## Events, lines and shadows -/

/-- Record an event at the device port (R13). -/
def emit (e : Event) (s : State) : State := { s with trace := s.trace ++ [e] }

/-- Record the value MODE has now. -/
def noteMode (s : State) : State := { s with modes := s.modes ++ [(s.trace.length, s.mode)] }

/-- `SetCE(b)` (R131). -/
def setCE (b : Bool) (s : State) : State := noteMode (emit (if b then .ce1 else .ce0) { s with ce := b })

/-- `SetCSN(b)` (R132). -/
def setCSN (b : Bool) (s : State) : State := emit (if b then .desel else .sel) { s with csn := b }

/-- The shadows follow the byte `v` written to register 0x00 (R24). -/
def shadow (v : Byte) (s : State) : State :=
  noteMode { s with pwrS := v.getLsbD s.cfg.powerBit, rxS := v.getLsbD s.cfg.rxmodeBit }

/-! ## Time (R217, R218) -/

/-- By how much the next wait or time read exceeds its lower bound. -/
def State.delay (s : State) : Nat := s.delays.getD s.ticks (Config.delay s.ticks)

/-- `Wait(n)`: at least `n` microseconds pass (R217). That every wait returns is an assumption on the platform (R220; log 27). -/
def wait (n : Nat) (s : State) : State :=
  emit (.w n) { s with now := s.now + n + s.delay, ticks := s.ticks + 1 }

/-- `Now()`: some time passes and the elapsed time, then in `now`, is read (R218). -/
def readNow (s : State) : State := emit .t { s with now := s.now + s.delay, ticks := s.ticks + 1 }

/-- The time between a device-select edge and the nearest exchange (R100, D32): no event of the trace (log 24). -/
def holdCSN (s : State) : State := { s with now := s.now + s.cfg.tCsnUs }

/-! ## The device's side -/

/-- A device about which nothing is known, its registers in the canonical form (log 9). -/
def freeDevice (n : Nat) : Device :=
  { Config.freeDevice n with regs := Memory.canonical (Config.freeDevice n).regs }

/-- From here on nothing is known of the device. -/
def loseDevice (s : State) : State := { s with dev := freeDevice s.drawn }

/-- Whether the device's answers are those its state gives (R38(a) as a premise, log 5): only after INIT, or during it (R236). -/
def State.trusts (s : State) : Bool := s.conforming && (s.inited || decide (s.seq = .running .init))

/-- The environment's part in the next exchange (R66). -/
def State.answer (s : State) : DevAnswer := s.answers.getD s.drawn (Config.deviceAnswer s.drawn)

/-- The payloads whose mark says they stay, and those past the marks. -/
def keepMarked : List Bool → List Payload → List Payload
  | [], q => q
  | _ :: _, [] => []
  | m :: ms, p :: q => if m then p :: keepMarked ms q else keepMarked ms q

/-- The radio activity `r` (R39, R71). It changes no register, those the engine never writes (0x08, 0x09, 0x17) among them, though N3 lets
nothing be assumed of what they hold (DESIGN CHOICE, log 29). -/
def radioActs (r : Radio) (d : Device) : Device where
  regs := d.regs
  flags := orFlags d.flags r.set
  txFifo := keepMarked r.txKept d.txFifo
  rxFifo := keepMarked r.rxKept d.rxFifo ++ r.arrived

/-- Use up one answer: its radio activity happens. That every exchange returns is an assumption on the platform (R220; log 27). -/
def takeAnswer (s : State) : State := { s with drawn := s.drawn + 1, dev := radioActs s.answer.radio s.dev }

/-- The byte returned in exchange 0, the status byte (R33, R86), where the oracle offers `b`. -/
def statusReply (s : State) (b : Byte) : Byte := if s.trusts then statusByte s.cfg s.dev.flags b else b

/-- Whether the device's pipe-0 width register holds `payload_size` (R239, U1). -/
def State.widthAgrees (s : State) : Bool := decide ((s.devReg 0x11 0).toNat = s.payloadSize.toNat)

/-- The byte returned in data exchange number `idx` after the command byte `c` (R106, R108, R38), where the oracle offers `b`. -/
def dataReply (c : Byte) (s : State) (b : Byte) : Byte :=
  if s.trusts then
    match decodeBus c with
    | some (.readRegister a) =>
      if a = 0x07 then (if s.idx = 0 then statusByte s.cfg s.dev.flags b else b)
      else if storesBytes a && decide (s.idx.toNat < (regWidth a).getD 0) then s.devReg a s.idx.toNat
      else b
    | some .readRxPayload => if s.widthAgrees then (s.dev.rxFifo.headD []).getD s.idx.toNat b else b
    | _ => b
  else b

/-- WRITE_REGISTER in the device (R107, R37): no byte writes nothing; the status register's flags are cleared by the byte; a byte
the register has no place for, or a reserved location, leaves nothing known (U16). -/
def registerWritten (a : BitVec 5) (out : List Byte) (s : State) : State :=
  match out with
  | [] => s
  | v :: _ =>
    if reservedAddr a || decide ((regWidth a).getD 32 < out.length) then loseDevice s
    else if a = 0x07 then { s with dev := { s.dev with flags := clearedBy s.cfg v s.dev.flags } }
    else { s with dev := { s.dev with regs := Memory.writeAll s.dev.regs (cellOf a 0) out } }

/-- What a finished transaction does in the device (R106 to R113), at its end (log 7). A read changes nothing there (R106), at a
reserved location too, where U16 leaves the device's reaction open (DESIGN CHOICE, log 28). -/
def deviceActs (c : Byte) (out : List Byte) (s : State) : State :=
  match decodeBus c with
  | some (.readRegister _) => s
  | some (.writeRegister a) => registerWritten a out s
  | some .readRxPayload => if s.widthAgrees then s else loseDevice s
  | some .writeTxPayload => { s with dev := { s.dev with txFifo := s.dev.txFifo ++ [out] } }
  | some .flushTx => { s with dev := { s.dev with txFifo := [] } }
  | some .flushRx => { s with dev := { s.dev with rxFifo := [] } }
  | some .reuseTxPayload => loseDevice s
  | some .nop => s
  | none => loseDevice s

/-! ## The framed transaction (R100) -/

/-- Exchange 0: the command byte out, the status byte in and latched; `idx` and `in` start. -/
def xferCommand (c : Byte) (s : State) : State :=
  let s1 := takeAnswer s
  let st := statusReply s1 s.answer.byte
  emit (.x c st) { s1 with statusL := st, idx := 0, dataIn := [] }

/-- One data exchange: `in[idx] <- Xfer(t); idx <- idx + 1`. -/
def xferData (c t : Byte) (s : State) : State :=
  let s1 := takeAnswer s
  let r := dataReply c s1 s.answer.byte
  emit (.x t r) { s1 with dataIn := s1.dataIn ++ [r], idx := s1.idx + 1 }

/-- The data phase. -/
def xferAll (c : Byte) : List Byte → State → State
  | [], s => s
  | t :: ts, s => xferAll c ts (xferData c t s)

/-- `Cmd(c, out)` (R100): its status byte is then in `statusL`, its `in` in `dataIn`. -/
def cmd (c : Byte) (out : List Byte) (s : State) : State :=
  s |> setCSN false |> holdCSN |> xferCommand c |> xferAll c out |> holdCSN |> setCSN true |> deviceActs c out

/-! ## The register calls (R102 to R105) and what is built on them -/

/-- `RegReadBlock(a, len)` (R104). -/
def regReadBlock (a : Byte) (len : Nat) (s : State) : State := cmd (readByte a) (List.replicate len s.cfg.fill) s

/-- `RegRead(a)` (R102). -/
def regRead (a : Byte) (s : State) : State := regReadBlock a 1 s

/-- The shadows after the bytes `bs` are written to the register at the masked address `a` (R24, R103; DEDUCED for a block, log 22). -/
def shadowWrite (a : Byte) (bs : List Byte) (s : State) : State :=
  match bs with
  | [] => s
  | v :: _ => if a &&& 0x1F = 0 then shadow v s else s

/-- `RegWriteBlock(a, bs)` (R105). -/
def regWriteBlock (a : Byte) (bs : List Byte) (s : State) : State := s |> cmd (writeByte a) bs |> shadowWrite a bs

/-- `RegWrite(a, v)` (R103). -/
def regWrite (a v : Byte) (s : State) : State := regWriteBlock a [v] s

/-- `StatusQuery()` (R113). -/
def statusQuery (s : State) : State := cmd 0xFF [] s

/-- `FLUSH_TX` (R110). -/
def flushTxFifo (s : State) : State := cmd 0xE1 [] s

/-- `FLUSH_RX` (R111). -/
def flushRxFifo (s : State) : State := cmd 0xE2 [] s

/-- `ClearFlags(m)` (R114). -/
def clearFlags (m : Byte) (s : State) : State := regWrite 0x07 m s

/-- The byte a single-byte read returned, `in[0]` (R102). -/
def State.readValue (s : State) : Byte := s.dataIn.headD 0

/-- `CfgUpdate(set, clr)` (R141): a live read of register 0x00, then the write. -/
def cfgUpdate (set clr : Byte) (s : State) : State :=
  let s1 := regRead 0x00 s
  regWrite 0x00 ((s1.readValue ||| set) &&& ~~~clr) s1

/-! ## The beginning and the end of a host operation (R32, R214) -/

/-- An operation is accepted (R32). -/
def accept (op : HostOp) (s : State) : State := { s with busy := true, seq := .running op }

/-- `finish(b)` (R32), the end of every operation, and what stands in the place of taking an exception: a failure exit is
`finish(0)`, saves nothing, and there is nothing to return from (R200, R207, R208). -/
def finish (b : Bool) (s : State) : State :=
  { s with result := b, busy := false, seq := .idle, inited := s.inited || decide (s.seq = .running .init) }

/-- What is known of the device once POWER_DOWN has cleared its power bit (U19, N10): its registers and flags where it is taken to
keep what was written (R38, log 5), otherwise nothing; its FIFOs are open either way (log 25). -/
def poweredDown (s : State) : State :=
  let lost := freeDevice s.drawn
  { s with
    dev := { (if s.conforming then s.dev else lost) with txFifo := lost.txFifo, rxFifo := lost.rxFifo } }

/-- Keep the device, or from here on nothing is known of it. -/
def keepDeviceIf (known : Bool) (s : State) : State := { s with dev := if known then s.dev else freeDevice s.drawn }

/-- A host operation: accepted, then its body, which ends by `finish`. The engine does not test `inited` and runs the sequence
unchanged (R26, R236); what an operation other than INIT leaves of the device before INIT is unspecified (log 10). `step` refuses
such an operation (R236). -/
def hostOperation (op : HostOp) (body : State → State) (s : State) : Host.Outcome State Fault Refusal :=
  .next (keepDeviceIf (s.inited || decide (op = .init)) (body (accept op s)))

/-! ## Reset (R230, R231) -/

/-- Reset: the engine's registers take the values they have in `State.reset` (R45), the line levels reach the port, and the
device, the time and the host are as they were (R230, log 13). -/
def resetEngine (s : State) : State :=
  { State.reset with
    payloadSize := BitVec.ofNat 6 s.cfg.payloadDefault
    hdata := s.hdata
    callLen := s.callLen
    host := s.host
    cfg := s.cfg
    dev := s.dev
    conforming := s.conforming
    answers := s.answers
    drawn := s.drawn
    now := s.now
    delays := s.delays
    ticks := s.ticks
    trace := s.trace ++ [.desel, .ce0]
    modes := s.modes ++ [(s.trace.length + 2, .powerDown)] }

/-- Reset inside an operation that started in `s` and would have ended in `t`, after `events` of its events (R231): the rest did
not happen, and nothing is known of the device (U15, log 13). -/
def resetInside (events : Nat) (s t : State) : State :=
  let cut := s.trace.length + events
  resetEngine (loseDevice { t with trace := t.trace.take cut, modes := t.modes.filter (fun m => m.1 ≤ cut) })

/-! ## The host port (R214) -/

/-- Whether a code is a host operation that needs INIT to have run (R236); a bus command presented alone is none (log 16). -/
def needsInit : Code → Bool
  | .bus _ => false
  | .host w => !(hostOp w == 0x0)

/-- Whether a code is RECEIVE, which asks that the widths agree (R239, U1). -/
def needsWidth : Code → Bool
  | .bus _ => false
  | .host w => hostOp w == 0x4

/-- The precondition of a code that `s` does not meet: INIT has run (R236), the widths agree (R239). -/
def unmet (c : Code) (s : State) : Option Refusal :=
  if needsInit c && !s.inited then some .beforeInit
  else if needsWidth c && !s.widthAgrees then some .widthsDisagree
  else none

/-- The host's next move, taken off its list. -/
def nextMove (s : State) : Option HostMove × State := (s.host.head?, { s with host := s.host.tail })

/-- The operands presented with a code reach the engine's inputs. -/
def presented (len : Fin 33) (data : Vector Byte 32) (s : State) : State := { s with callLen := len, hdata := data }

end Sys2Proof.Machine
end

