-- ==== Sys2Proof/Machine/Bus.lean ====
section
/-! DEFINITION. The eight bus commands, each as one transaction of the Register Access Layer with its operands (R106 to R113,
log 16): `callLen` and `HDATA` give a register call its length and data, `payload_size` a payload command its length. -/

namespace Sys2Proof.Machine

/-- READ_REGISTER (R106) through `RegReadBlock` (R104). -/
def execReadRegister (addr : Byte) (s : State) : Host.Outcome State Fault Refusal :=
  .next (regReadBlock addr s.callLen.val s)

/-- WRITE_REGISTER (R107) through `RegWriteBlock` (R105). -/
def execWriteRegister (addr : Byte) (s : State) : Host.Outcome State Fault Refusal :=
  .next (regWriteBlock addr (s.hdata.toList.take s.callLen.val) s)

/-- READ_RX_PAYLOAD (R108): exactly `payload_size` exchanges. -/
def execReadRxPayload (s : State) : Host.Outcome State Fault Refusal :=
  .next (cmd 0x61 (List.replicate s.payloadSize.toNat s.cfg.fill) s)

/-- WRITE_TX_PAYLOAD (R109): `n` bytes of `HDATA`, zero-padded to `payload_size`. -/
def execWriteTxPayload (s : State) : Host.Outcome State Fault Refusal :=
  .next (cmd 0xA0 (framedPayload s.hdata (min s.callLen.val s.payloadSize.toNat) s.payloadSize) s)

/-- FLUSH_TX (R110). -/
def execFlushTx (s : State) : Host.Outcome State Fault Refusal := .next (flushTxFifo s)

/-- FLUSH_RX (R111). -/
def execFlushRx (s : State) : Host.Outcome State Fault Refusal := .next (flushRxFifo s)

/-- REUSE_TX_PAYLOAD (R112): the frame is R100's; its effect in the device is not in the source, so the device is free after it
(N8, log 9). -/
def execReuseTxPayload (s : State) : Host.Outcome State Fault Refusal := .next (cmd 0xE3 [] s)

/-- NOP (R113). -/
def execNop (s : State) : Host.Outcome State Fault Refusal := .next (statusQuery s)

end Sys2Proof.Machine
end

