-- ==== Sys2Proof/Machine/Configuration.lean ====
section
/-! DEFINITION. The configuration operations and GET_STATUS (R190 to R198). -/

namespace Sys2Proof.Machine

/-- SET_CHANNEL (R190). -/
def execSetChannel (arg : Byte) (s : State) : Host.Outcome State Fault Refusal :=
  hostOperation .setChannel (fun u => u |> regWrite 0x05 (channelOf u.cfg arg) |> finish true) s

/-- SET_PAYLOAD_SIZE (R192): the engine's register first, then the device's (D35). -/
def execSetPayloadSize (arg : Byte) (s : State) : Host.Outcome State Fault Refusal :=
  hostOperation .setPayloadSize
    (fun u => { u with payloadSize := BitVec.ofNat 6 (clampedSize u.cfg arg) }
      |> regWrite 0x11 (BitVec.ofNat 8 (clampedSize u.cfg arg)) |> finish true) s

/-- SET_ADDRESS (R194): the transmit address, then the receive-pipe-0 address. -/
def execSetAddress (_arg : Byte) (s : State) : Host.Outcome State Fault Refusal :=
  hostOperation .setAddress
    (fun u => u |> regWriteBlock 0x10 (addressOf u.cfg u.hdata) |> regWriteBlock 0x0A (addressOf u.cfg u.hdata) |> finish true) s

/-- GET_STATUS (R196): no flag is cleared. -/
def execGetStatus (_arg : Byte) (s : State) : Host.Outcome State Fault Refusal :=
  hostOperation .getStatus
    (fun u =>
      let u1 := statusQuery u
      finish true { u1 with rbyte := u1.statusL }) s

end Sys2Proof.Machine
end

