-- ==== Sys2Proof/Machine/Modes.lean ====
section
/-! DEFINITION. The mode state machine: SET_TX_MODE, SET_RX_MODE, POWER_UP, POWER_DOWN and INIT (R140 to R151). -/

namespace Sys2Proof.Machine

/-- `TxModeBody` (R142). -/
def txModeBody (s : State) : State :=
  s |> cfgUpdate 0x00 (rxMask s.cfg) |> setCE false |> wait s.cfg.tSettleTxUs

/-- `RxModeBody` (R143). -/
def rxModeBody (s : State) : State :=
  s |> cfgUpdate (rxMask s.cfg) 0x00 |> setCE true |> wait s.cfg.tSettleRxUs

/-- `PowerUpBody` (R144). What is in the device while it is powered down, and what is written there meanwhile, is
kept through the power up, with `conforming` = false too (N10 leaves it open; DESIGN CHOICE, log 25). -/
def powerUpBody (s : State) : State :=
  s |> cfgUpdate (pwrMask s.cfg) 0x00 |> wait s.cfg.tPwrupUs

/-- POWER_DOWN's body (R145): no wait, `CE` untouched; what the device then keeps is `poweredDown`'s (R224). -/
def powerDownBody (s : State) : State := s |> cfgUpdate 0x00 (pwrMask s.cfg) |> poweredDown

/-- The entries of `INIT_TABLE`, written in list order (R149). -/
def writeTable : List (BitVec 5 × Byte) → State → State
  | [], s => s
  | e :: es, s => writeTable es (regWrite (e.1.setWidth 8) e.2 s)

/-- INIT's body (R149). -/
def initBody (s : State) : State :=
  s |> setCSN true |> setCE false |> writeTable s.cfg.initTable |> regWrite 0x11 (s.payloadSize.setWidth 8)
    |> flushTxFifo |> flushRxFifo |> clearFlags s.cfg.clrAll |> powerUpBody

/-- SET_TX_MODE (R142). -/
def execSetTxMode (_arg : Byte) (s : State) : Host.Outcome State Fault Refusal :=
  hostOperation .setTxMode (fun u => finish true (txModeBody u)) s

/-- SET_RX_MODE (R143). -/
def execSetRxMode (_arg : Byte) (s : State) : Host.Outcome State Fault Refusal :=
  hostOperation .setRxMode (fun u => finish true (rxModeBody u)) s

/-- POWER_UP (R144). -/
def execPowerUp (_arg : Byte) (s : State) : Host.Outcome State Fault Refusal :=
  hostOperation .powerUp (fun u => finish true (powerUpBody u)) s

/-- POWER_DOWN (R145). -/
def execPowerDown (_arg : Byte) (s : State) : Host.Outcome State Fault Refusal :=
  hostOperation .powerDown (fun u => finish true (powerDownBody u)) s

/-- INIT (R149). -/
def execInit (_arg : Byte) (s : State) : Host.Outcome State Fault Refusal :=
  hostOperation .init (fun u => finish true (initBody u)) s

end Sys2Proof.Machine
end

