-- ==== Sys2Proof/Machine/Transfer.lean ====
section
/-! DEFINITION. The packet transfer protocol: TRANSMIT (R160 to R168) and RECEIVE (R171 to R174). -/

namespace Sys2Proof.Machine

/-- The chip-enable pulse `CE1 W(15) CE0` (R163). -/
def pulseCE (s : State) : State := s |> setCE true |> wait s.cfg.tCePulseUs |> setCE false

/-- `t0 <- Now()` (R164). -/
def startTimer (s : State) : State :=
  let s1 := readNow s
  { s1 with t0 := s1.now }

/-- The deadline test's condition, at the time just read (R164, R219). -/
def State.deadlinePassed (s : State) : Bool := decide (s.cfg.tTimeoutUs ≤ s.now - s.t0)

/-- The success exit (R165). -/
def successExit (s : State) : State := s |> clearFlags s.cfg.clrDs |> finish true

/-- The max-retransmit exit: clear, then flush (R166). -/
def maxRtExit (s : State) : State := s |> clearFlags s.cfg.clrMr |> flushTxFifo |> finish false

/-- The timeout exit: nothing is cleaned up (R167). -/
def timeoutExit (s : State) : State := finish false s

/-- The poll loop (R164): in each pass the deadline, then the status, then DATA_SENT, then MAX_RT, then the wait (R206). The first
argument bounds the passes that may query the status; `pollBound` of them always suffice, so that the deadline test after the last
of them has passed by itself. -/
def pollLoop : Nat → State → State
  | 0, s => timeoutExit (readNow s)
  | k + 1, s =>
    let s1 := readNow s
    if s1.deadlinePassed then timeoutExit s1
    else
      let s2 := statusQuery s1
      if dataSentBit s2.cfg s2.statusL then successExit s2
      else if maxRtBit s2.cfg s2.statusL then maxRtExit s2
      else pollLoop k (wait s2.cfg.tPollUs s2)

/-- `ceil(T_TIMEOUT_US / T_POLL_US)`, the most status queries of one TRANSMIT (R164). -/
def pollBound (c : Config) : Nat := (c.tTimeoutUs + c.tPollUs - 1) / c.tPollUs

/-- What TRANSMIT does before it polls (R160 to R163): the mode switch, the leading flush, the load, the pulse, the timer. -/
def loadAndFire (arg : Byte) (s : State) : State :=
  s |> txModeBody |> flushTxFifo |> cmd 0xA0 (framedPayload s.hdata (transmitLen arg s.payloadSize) s.payloadSize)
    |> pulseCE |> startTimer

/-- TRANSMIT (R160). -/
def execTransmit (arg : Byte) (s : State) : Host.Outcome State Fault Refusal :=
  hostOperation .transmit (fun u => pollLoop (pollBound u.cfg) (loadAndFire arg u)) s

/-- The payload read and the success exit of RECEIVE (R172, R174). -/
def readPayload (s : State) : State :=
  let s1 := cmd 0x61 (List.replicate s.payloadSize.toNat s.cfg.fill) { s with rxlen := s.payloadSize }
  { s1 with rxbuf := storeFrom 0 s1.dataIn s1.rxbuf } |> clearFlags s.cfg.clrDr |> finish true

/-- RECEIVE's body (R171): one status query; the no-data exit writes nothing but `RESULT` (R173). -/
def receiveBody (s : State) : State :=
  let s1 := s |> rxModeBody |> statusQuery
  if dataReadyBit s1.cfg s1.statusL then readPayload s1 else finish false s1

/-- RECEIVE (R171). -/
def execReceive (_arg : Byte) (s : State) : Host.Outcome State Fault Refusal :=
  hostOperation .receive receiveBody s

end Sys2Proof.Machine
end

