-- ==== Sys2Proof/Machine/Dispatch.lean ====
section
/-! DEFINITION. What each instruction means: one arm per constructor, each one call. -/

namespace Sys2Proof.Machine

def exec (i : Instr) (s : State) : Host.Outcome State Fault Refusal :=
  match i with
  | .readRegister addr => Sys2Proof.Machine.execReadRegister addr s
  | .writeRegister addr => Sys2Proof.Machine.execWriteRegister addr s
  | .readRxPayload => Sys2Proof.Machine.execReadRxPayload s
  | .writeTxPayload => Sys2Proof.Machine.execWriteTxPayload s
  | .flushTx => Sys2Proof.Machine.execFlushTx s
  | .flushRx => Sys2Proof.Machine.execFlushRx s
  | .reuseTxPayload => Sys2Proof.Machine.execReuseTxPayload s
  | .nop => Sys2Proof.Machine.execNop s
  | .init arg => Sys2Proof.Machine.execInit arg s
  | .setTxMode arg => Sys2Proof.Machine.execSetTxMode arg s
  | .setRxMode arg => Sys2Proof.Machine.execSetRxMode arg s
  | .transmit arg => Sys2Proof.Machine.execTransmit arg s
  | .receive arg => Sys2Proof.Machine.execReceive arg s
  | .setChannel arg => Sys2Proof.Machine.execSetChannel arg s
  | .setPayloadSize arg => Sys2Proof.Machine.execSetPayloadSize arg s
  | .setAddress arg => Sys2Proof.Machine.execSetAddress arg s
  | .getStatus arg => Sys2Proof.Machine.execGetStatus arg s
  | .powerUp arg => Sys2Proof.Machine.execPowerUp arg s
  | .powerDown arg => Sys2Proof.Machine.execPowerDown arg s

end Sys2Proof.Machine
end

