-- ==== Sys2Proof/Machine/Step.lean ====
section
/-! DEFINITION. One step: the host port (R214), dispatch to the operation presented (R205), and reset (R230, R231). -/

namespace Sys2Proof.Machine

/-- Run the code `c` in `s`, or say why it is no instruction (R84) or which precondition is unmet (R236, R239). -/
def runCode (c : Code) (s : State) : Host.Outcome State Fault Refusal :=
  match decode c with
  | .ok i =>
    match unmet c s with
    | some r => .refused r
    | none => exec i s
  | .error e => .refused (.noInstruction e)

/-- One step. While `busy` = 1 nothing the host does is seen (R214); a record that is no configuration has no machine (U24); with
nothing presented the engine does nothing (R224; log 18). -/
def step (s : State) : Host.Outcome State Fault Refusal :=
  if s.busy then .refused .requestWhileBusy
  else if configOk s.cfg then
    match nextMove s with
    | (none, _) => .next s
    | (some .reset, s1) => .next (resetEngine s1)
    | (some (.present c len data), s1) => runCode c (presented len data s1)
    | (some (.presentThenReset c len data events), s1) =>
      match runCode c (presented len data s1) with
      | .next t => .next (resetInside events s1 t)
      | .fault f => .fault f
      | .refused r => .refused r
  else .refused .notAConfiguration

/-- `s` with the instruction of a table word presented next at the host port, with the operands its inputs hold, and with what INIT does
for its preconditions done where the operation has them: `inited`, and for RECEIVE the device's width register (R236, R239, log 17). -/
def State.withFetchWord (s : State) (nbits w : Nat) : State :=
  match codeOf nbits w with
  | some c =>
    { s with
      host := .present c s.callLen s.hdata :: s.host
      inited := s.inited || needsInit c
      dev :=
        if needsWidth c then { s.dev with regs := Memory.write s.dev.regs (cellOf 0x11 0) (s.payloadSize.setWidth 8) } else s.dev }
  | none => s

end Sys2Proof.Machine
end

