-- ==== Sys2Proof/Safety.lean ====
section
/-! DEFINITION. The terms claims use: the discipline of the device-select line, the invariants, what an instruction leaves as it
was, and the events of a transaction and of a poll pass. -/

namespace Sys2Proof.Machine

/-! ## Events -/

/-- The events of one transaction with command byte `c`, status byte `st`, data bytes `out` sent and `ins` received (R89, R100). -/
def txn (c st : Byte) (out ins : List Byte) : List Event :=
  .sel :: .x c st :: List.zipWith Event.x out ins ++ [.desel]

/-- One pass of the poll loop that shows no flag: deadline test, status query, wait (R164). -/
def passEvents (pollUs : Nat) (st : Byte) : List Event := .t :: txn 0xFF st [] [] ++ [.w pollUs]

/-- The device-select discipline of R101, read off the events: from level `lvl` of `CSN` the level at the end, and none if a
selection nests, a byte is exchanged while `CSN` is high, or `CE`, a wait or a time read falls while it is low. -/
def selectLevel : Bool → List Event → Option Bool
  | lvl, [] => some lvl
  | true, .sel :: es => selectLevel false es
  | false, .sel :: _ => none
  | _, .desel :: es => selectLevel true es
  | false, .x _ _ :: es => selectLevel false es
  | true, .x _ _ :: _ => none
  | true, .ce1 :: es => selectLevel true es
  | false, .ce1 :: _ => none
  | true, .ce0 :: es => selectLevel true es
  | false, .ce0 :: _ => none
  | true, .w _ :: es => selectLevel true es
  | false, .w _ :: _ => none
  | true, .t :: es => selectLevel true es
  | false, .t :: _ => none

/-! ## Invariants -/

/-- What holds between steps: `payload_size` is 1 to 32 (R21), the engine is idle with `CSN` high (R23, R32, R101), the device's
registers are in the canonical form, the events obey R101, and `RXLEN`, `idx` and `t0` are in their ranges (R30, R31, R218). -/
abbrev State.Inv (s : State) : Prop :=
  1 ≤ s.payloadSize.toNat ∧ s.payloadSize.toNat ≤ 32 ∧ s.busy = false ∧ s.seq = .idle ∧ s.csn = true ∧
    Memory.wf s.dev.regs = true ∧ selectLevel true s.trace = some true ∧ s.rxlen.toNat ≤ 32 ∧ s.idx.toNat ≤ 32 ∧ s.t0 ≤ s.now

/-- What holds between host operations after INIT with a device that returns what was written (R38, R146): the shadows are the bits
of register 0x00, the widths agree (R239), and chip-enable is high exactly when the receive-mode bit is set. -/
abbrev State.Synced (s : State) : Prop :=
  s.conforming = true ∧ s.inited = true ∧ configOk s.cfg = true ∧ Memory.wf s.dev.regs = true ∧ s.widthAgrees = true ∧
    s.pwrS = (s.devReg 0x00 0).getLsbD s.cfg.powerBit ∧ s.rxS = (s.devReg 0x00 0).getLsbD s.cfg.rxmodeBit ∧ s.ce = s.rxS

/-- What a host operation other than INIT asks for: INIT has run, and the record is a configuration. R236 makes `inited` = 1 a premise
of every claim about such an operation. -/
abbrev State.Ready (s : State) : Prop := s.inited = true ∧ configOk s.cfg = true

/-- The preconditions of a code hold: INIT has run, where it is a host operation other than INIT (R236), and the widths agree, where it
is RECEIVE (R239, U1). -/
abbrev State.Allows (c : Code) (s : State) : Prop :=
  (needsInit c = true → s.inited = true) ∧ (needsWidth c = true → s.widthAgrees = true)

/-! ## Frames -/

/-- The engine's inputs, the configuration and the environment's scripts: no instruction writes them (R8, R29). -/
abbrev SameInputs (s t : State) : Prop :=
  t.hdata = s.hdata ∧ t.callLen = s.callLen ∧ t.host = s.host ∧ t.cfg = s.cfg ∧ t.conforming = s.conforming ∧
    t.answers = s.answers ∧ t.delays = s.delays

/-- The host-readable results other than `RESULT`. -/
abbrev SameResults (s t : State) : Prop := t.rbyte = s.rbyte ∧ t.rxlen = s.rxlen ∧ t.rxbuf = s.rxbuf

/-- `CE` and the shadows, hence MODE. -/
abbrev SameMode (s t : State) : Prop := t.ce = s.ce ∧ t.pwrS = s.pwrS ∧ t.rxS = s.rxS

/-- Every byte of the device's register space but the cells listed reads as before. Where the device's power bit is 0, by an earlier
POWER_DOWN or by a write of these very cells, this takes it to keep its registers, which N10 leaves open (DESIGN CHOICE, log 25). It also
takes the device to change none by itself, 0x08, 0x09 and 0x17 among them (DESIGN CHOICE, log 29); what the status register shows is in `dev.flags`, not in a cell. -/
abbrev SameCells (s t : State) (stored : List Nat) : Prop :=
  ∀ c, c ∉ stored → Memory.read t.dev.regs c = Memory.read s.dev.regs c

/-- A flag that was set is still set (R34: nothing but a clearing write clears one; while powered down, log 25). -/
abbrev KeepsFlags (s t : State) : Prop :=
  (s.dev.flags.dataReady = true → t.dev.flags.dataReady = true) ∧ (s.dev.flags.dataSent = true → t.dev.flags.dataSent = true) ∧
    (s.dev.flags.maxRt = true → t.dev.flags.maxRt = true)

/-- A flag that was set is still set, unless the byte `m` of a clearing write has its bit (R37's convention, log 8). -/
abbrev KeepsFlagsBut (m : Byte) (s t : State) : Prop :=
  (m.getLsbD 6 = false → s.dev.flags.dataReady = true → t.dev.flags.dataReady = true) ∧
    (m.getLsbD 5 = false → s.dev.flags.dataSent = true → t.dev.flags.dataSent = true) ∧
    (m.getLsbD 4 = false → s.dev.flags.maxRt = true → t.dev.flags.maxRt = true)

/-- What a bus command presented alone leaves of the engine, apart from the shadows (R100). -/
abbrev BusFrame (s t : State) : Prop :=
  t.payloadSize = s.payloadSize ∧ t.result = s.result ∧ SameResults s t ∧ t.ce = s.ce ∧ t.busy = s.busy ∧ t.inited = s.inited ∧
    t.seq = s.seq ∧ t.t0 = s.t0 ∧ t.ticks = s.ticks ∧ SameInputs s t

/-- The shadows and the record of MODE. -/
abbrev SameShadows (s t : State) : Prop := t.pwrS = s.pwrS ∧ t.rxS = s.rxS ∧ t.modes = s.modes

/-- An operation has ended with outcome `b` (R32, R207). -/
abbrev EndedWith (b : Bool) (t : State) : Prop := t.result = b ∧ t.busy = false ∧ t.seq = .idle ∧ t.csn = true

/-! ## The environment's script -/

/-- No radio activity. -/
def Radio.quiet : Radio := { set := { dataReady := false, dataSent := false, maxRt := false }, txKept := [], rxKept := [], arrived := [] }

/-- The script gives the next `n` exchanges, and the device's radio does nothing during them. -/
abbrev State.QuietFor (n : Nat) (s : State) : Prop :=
  ∀ k, k < n → (s.answers[s.drawn + k]?).map DevAnswer.radio = some Radio.quiet

/-- The FIFOs are left alone (R198): the transmit FIFO gains nothing, and with a radio that is quiet for the `n` exchanges made both are
as they were (what the radio does to them otherwise is log 6's). -/
abbrev KeepsQueues (n : Nat) (s t : State) : Prop :=
  t.dev.txFifo.Sublist s.dev.txFifo ∧ (s.QuietFor n → t.dev.txFifo = s.dev.txFifo ∧ t.dev.rxFifo = s.dev.rxFifo)

/-- The byte the oracle offers in the exchange `k` from now (R66). -/
def State.byteAt (s : State) (k : Nat) : Byte := (s.answers.getD (s.drawn + k) (Config.deviceAnswer (s.drawn + k))).byte

/-- The excess of the wait or time read `k` from now (R217). -/
def State.delayAt (s : State) (k : Nat) : Nat := s.delays.getD (s.ticks + k) (Config.delay (s.ticks + k))

end Sys2Proof.Machine
end

