-- ==== Sys2Proof/Certificates/Slice0/Obligations.lean ====
section
/-! DEFINITION. The statements for the provers. `R<n>` are the rules of spec/ each one formalises. A claim about a host operation other
than INIT takes `inited` = 1 as a premise, as R236 asks (`State.Ready`), and a claim about RECEIVE that the widths agree, as R239 and U1
ask; `State.Allows` is both, for a claim about every instruction. That a step refuses what these shut out is UnmetPreconditionsRefused;
what an operation does to the engine before INIT is EngineRunsUnchangedBeforeInit. Clauses on the device's registers and flags take it to
keep them where its power bit is 0 (N10; DESIGN CHOICE, log 25), unless they are under R38; and `SameCells` takes it to change no register
by itself, those the engine never writes (0x08, 0x09, 0x17) among them (N3; DESIGN CHOICE, log 29). -/

open Sys2Proof Sys2Proof.Machine

/-! ## Encodings -/

/-- R82, R86: decoding the code of a well-formed instruction gives it back, for every operand. -/
def Obligations.EncodeThenDecode : Prop :=
  ∀ i : Instr, i.wellFormed = true → decode (encode i) = .ok i

/-- R82, R86: each code has one meaning: what a code decodes to is well formed and encodes to that code. -/
def Obligations.DecodeThenEncode : Prop :=
  ∀ (c : Code) (i : Instr), decode c = .ok i → i.wellFormed = true ∧ encode i = c

/-- R82, R86: words written out from the spec's tables (95_test_vectors.md). -/
def Obligations.SampleCodesDecode : Prop :=
  decode (.host 0x306) = .ok (.transmit 6) ∧ decode (.host 0x1A5) = .ok (.setTxMode 0xA5) ∧
    decode (.host 0x54C) = .ok (.setChannel 76) ∧ decode (.host 0xA00) = .ok (.powerDown 0) ∧
    decode (.bus 0x27) = .ok (.writeRegister 0x07) ∧ decode (.bus 0x1F) = .ok (.readRegister 0x1F) ∧
    decode (.bus 0xA0) = .ok .writeTxPayload ∧ decode (.bus 0xFF) = .ok .nop

/-- R84: a host word with a reserved `op` is no instruction, and a step that is presented one is refused by name. -/
def Obligations.ReservedHostCodesRefused : Prop :=
  ∀ w : BitVec 12, 0xB00 ≤ w.toNat →
    decode (.host w) = .error (.reservedHostCode w) ∧
    ∀ (s : State) (len : Fin 33) (data : Vector Byte 32) (rest : List HostMove),
      s.busy = false → configOk s.cfg = true → s.host = .present (.host w) len data :: rest →
      step s = .refused (.noInstruction (.reservedHostCode w))

/-- R88: the command bytes outside the table of R86 are exactly 0x40 to 0x60, 0x62 to 0x9F, 0xA1 to 0xE0 and 0xE4 to 0xFE. -/
def Obligations.UnlistedCommandBytes : Prop :=
  ∀ b : Byte, decode (.bus b) = .error (.unlistedCommand b) ↔
    (0x40 ≤ b.toNat ∧ b.toNat ≤ 0x60) ∨ (0x62 ≤ b.toNat ∧ b.toNat ≤ 0x9F) ∨ (0xA1 ≤ b.toNat ∧ b.toNat ≤ 0xE0) ∨
      (0xE4 ≤ b.toNat ∧ b.toNat ≤ 0xFE)

/-- R62, R87: the command byte of an address operand is in 0x00..0x1F for a read and 0x20..0x3F for a write, and a register call acts
on the masked address. -/
def Obligations.AddressOperandMasked : Prop :=
  ∀ (a : Byte) (s : State),
    encode (.readRegister a) = .bus (0x00 ||| (a &&& 0x1F)) ∧ encode (.writeRegister a) = .bus (0x20 ||| (a &&& 0x1F)) ∧
    (readByte a).toNat ≤ 0x1F ∧ 0x20 ≤ (writeByte a).toNat ∧ (writeByte a).toNat ≤ 0x3F ∧
    exec (.readRegister a) s = exec (.readRegister (a &&& 0x1F)) s ∧
    exec (.writeRegister a) s = exec (.writeRegister (a &&& 0x1F)) s

/-! ## Steps, reset -/

/-- R214, R75: when an idle engine is presented a code that decodes to `i` and whose preconditions hold, the step is `exec i` on the
state whose inputs are those presented and whose host has that move behind it. R214 gives the host the eleven operations; bus bytes
presented alone are the model's (log 16), as are the list of moves (log 17) and the operands that come with a move (log 16, log 19). -/
def Obligations.StepRunsWhatIsPresented : Prop :=
  ∀ (s : State) (c : Code) (len : Fin 33) (data : Vector Byte 32) (rest : List HostMove) (i : Instr),
    s.busy = false → configOk s.cfg = true → s.host = .present c len data :: rest → decode c = .ok i →
    s.Allows c →
    i.wellFormed = true ∧ step s = exec i { s with host := rest, callLen := len, hdata := data }

/-- R236, D22: before INIT a step refuses the ten other host operations by name and runs INIT. R239, U1: after INIT it refuses RECEIVE by
name while the device's pipe-0 width register differs from `payload_size`. -/
def Obligations.UnmetPreconditionsRefused : Prop :=
  ∀ (s : State) (op : BitVec 4) (arg : Byte) (len : Fin 33) (data : Vector Byte 32) (rest : List HostMove),
    s.busy = false → configOk s.cfg = true → s.host = .present (.host (op ++ arg)) len data :: rest →
    (s.inited = false → 1 ≤ op.toNat → op.toNat ≤ 0xA → step s = .refused .beforeInit) ∧
    (op = 0x0 → step s = exec (.init arg) { s with host := rest, callLen := len, hdata := data }) ∧
    (s.inited = true → op = 0x4 → (s.devReg 0x11 0).toNat ≠ s.payloadSize.toNat → step s = .refused .widthsDisagree)

/-- R9: the values the document fixes are those of every record that is a configuration, and the default record is one. U24: an idle engine
with any other record takes no step but the refusal by name (log 18). -/
def Obligations.FixedParameters : Prop :=
  (∀ c : Config, configOk c = true → c.payloadMin = 1 ∧ c.payloadMax = 32 ∧ c.payloadDefault = 32 ∧ c.channelMax = 125 ∧
    c.addrLen = 5 ∧ c.regAddrW = 5 ∧ c.regAddrMask = 0x1F ∧ c.tSettleTxUs = 1000 ∧ c.tPwrupUs = 5000 ∧ c.tCePulseUs = 15 ∧
    c.tCePulseMinUs = 10 ∧ c.tTimeoutUs = 100000 ∧ c.retxCount = 3 ∧ c.retxDelayUs = 250 ∧ c.bitDataReady = 6 ∧
    c.bitDataSent = 5 ∧ c.bitMaxRt = 4) ∧
  configOk Config.default = true ∧
  ∀ s : State, s.busy = false → configOk s.cfg = false → step s = .refused .notAConfiguration

/-- R150: what every `INIT_TABLE` of a configuration meets (FixedParameters: a step accepts no other): (a), (f) and (g), and
(b) to (e) read by the layouts R151 takes from general knowledge (PRESUMED, log 14). -/
def Obligations.InitTablesMeetTheConstraints : Prop :=
  ∀ c : Config, configOk c = true →
    (∃ e ∈ c.initTable, e.1 = 0x00 ∧ e.2.getLsbD c.rxmodeBit = false) ∧
    (∃ e ∈ c.initTable, e.1 = 0x04 ∧ e.2 = 0x03) ∧
    (∃ e ∈ c.initTable, e.1 = 0x02 ∧ ∀ i, i < 6 → e.2.getLsbD i = decide (i < 2)) ∧
    (∃ e ∈ c.initTable, e.1 = 0x03 ∧ (e.2.extractLsb' 0 2).toNat + 2 = 5) ∧
    (∀ e ∈ c.initTable, e.1 = 0x1C → ∀ i, i < 6 → e.2.getLsbD i = false) ∧
    (∀ e ∈ c.initTable, e.1 ≠ 0x07 ∧ e.1 ≠ 0x11 ∧ ¬ (0x18 ≤ e.1.toNat ∧ e.1.toNat ≤ 0x1B) ∧ e.1.toNat < 0x1E) ∧
    (c.initTable.map Prod.fst).Nodup

/-- R224: when idle with nothing presented the engine does nothing. -/
def Obligations.IdleEngineDoesNothing : Prop :=
  ∀ s : State, s.busy = false → configOk s.cfg = true → s.host = [] → step s = .next s

/-- R214, D29: while `busy` = 1 the host has no move (log 18). -/
def Obligations.NoMoveWhileBusy : Prop :=
  ∀ s : State, s.busy = true → step s = .refused .requestWhileBusy

/-- R45: the values after reset that the spec gives. -/
def Obligations.ResetValues : Prop :=
  State.reset.payloadSize = 32 ∧ State.reset.ce = false ∧ State.reset.csn = true ∧ State.reset.busy = false ∧
    State.reset.seq = .idle ∧ State.reset.inited = false ∧ State.reset.pwrS = false ∧ State.reset.rxS = false ∧
    State.reset.mode = .powerDown ∧ State.reset.result = false

/-- R230, V50: reset between operations gives the engine R45's values, makes no bus traffic but the two levels, and leaves the device
as it was. That the levels are recorded as DESEL and CE0 is log 20's choice, and that the time and the inputs stay is log 13's. -/
def Obligations.ResetBetweenOperations : Prop :=
  ∀ (s : State) (rest : List HostMove), s.busy = false → configOk s.cfg = true → s.host = .reset :: rest →
    ∃ (t : State), step s = .next t ∧ t.payloadSize = 32 ∧ t.ce = false ∧ t.csn = true ∧ t.busy = false ∧ t.seq = .idle ∧
      t.inited = false ∧ t.pwrS = false ∧ t.rxS = false ∧ t.mode = .powerDown ∧ t.result = false ∧ t.dev = s.dev ∧
      t.trace = s.trace ++ [.desel, .ce0] ∧ t.host = rest ∧ t.cfg = s.cfg ∧ t.hdata = s.hdata ∧ t.now = s.now

/-- R231: reset inside an operation, after any number of its events, gives the engine R45's values; the operation's events up to the
cut have happened, and `CSN` goes high and `CE` low. What is then known of the device is log 13's. -/
def Obligations.ResetInsideOperation : Prop :=
  ∀ (s u : State) (c : Code) (len : Fin 33) (data : Vector Byte 32) (events : Nat) (rest : List HostMove) (i : Instr),
    s.busy = false → configOk s.cfg = true → s.host = .presentThenReset c len data events :: rest → decode c = .ok i →
    s.Allows c → exec i { s with host := rest, callLen := len, hdata := data } = .next u →
    ∃ (t : State), step s = .next t ∧ t.payloadSize = 32 ∧ t.ce = false ∧ t.csn = true ∧ t.busy = false ∧ t.seq = .idle ∧
      t.inited = false ∧ t.pwrS = false ∧ t.rxS = false ∧ t.result = false ∧ t.host = rest ∧ t.cfg = s.cfg ∧
      ∃ (es : List Event), u.trace = s.trace ++ es ∧ t.trace = s.trace ++ es.take events ++ [.desel, .ce0]

/-! ## Bus commands -/

/-- R100, R110, R111, R113 (and R112 for the frame of 0xE3): the four commands without data are one exchange inside one frame; the
flushes leave their FIFO empty, and no flag is cleared (R34). What 0xE3 does in the device is the model's free value (log 9). -/
def Obligations.CommandsWithoutData : Prop :=
  ∀ s : State,
    (∀ p ∈ [(Instr.flushTx, (0xE1 : Byte)), (.flushRx, 0xE2), (.reuseTxPayload, 0xE3), (.nop, 0xFF)],
      ∃ (t : State) (st : Byte), exec p.1 s = .next t ∧ t.trace = s.trace ++ [.sel, .x p.2 st, .desel] ∧ t.statusL = st ∧ t.csn = true ∧
        t.idx = 0 ∧ t.dataIn = [] ∧ BusFrame s t ∧ SameShadows s t ∧ (p.1 ≠ .reuseTxPayload → SameCells s t [] ∧ KeepsFlags s t)) ∧
    (∃ (t : State), exec .flushTx s = .next t ∧ t.dev.txFifo = []) ∧ (∃ (t : State), exec .flushRx s = .next t ∧ t.dev.rxFifo = [])

/-- R104, R106: a register read sends the masked command byte and `FILL` for each byte, keeps the bytes returned, changes no
register of the device and clears no flag. That a read of a reserved location leaves the device so is the model's choice (log 28). -/
def Obligations.ReadRegisterCompletes : Prop :=
  ∀ (s : State) (a : Byte), ∃ (t : State) (st : Byte) (ins : List Byte),
    exec (.readRegister a) s = .next t ∧ ins.length = s.callLen.val ∧
    t.trace = s.trace ++ txn (0x00 ||| (a &&& 0x1F)) st (List.replicate s.callLen.val s.cfg.fill) ins ∧
    t.dataIn = ins ∧ t.statusL = st ∧ t.csn = true ∧ t.idx.toNat = s.callLen.val ∧ BusFrame s t ∧ SameShadows s t ∧
    SameCells s t [] ∧ KeepsFlags s t

/-- R105, R107, R24: a register write sends the masked command byte and its bytes in index order; in the device byte `i` of the
register takes byte `i`, where the register has it (for 0x0B to 0x0F, whose width R36 does not give, at any length: the model's choice,
log 23); a write to the status register clears the flags whose bit is 1 and leaves the others set (R37's convention; PRESUMED, log 8);
the shadows follow a write to register 0x00 and no other. That the other cells and the flags stay when the byte written to 0x00 clears
the power bit is the model's choice (log 25). -/
def Obligations.WriteRegisterCompletes : Prop :=
  ∀ (s : State) (a : Byte), Memory.wf s.dev.regs = true → ∃ (t : State) (st : Byte) (ins : List Byte),
    exec (.writeRegister a) s = .next t ∧ ins.length = s.callLen.val ∧
    t.trace = s.trace ++ txn (0x20 ||| (a &&& 0x1F)) st (s.hdata.toList.take s.callLen.val) ins ∧
    t.statusL = st ∧ t.csn = true ∧ t.idx.toNat = s.callLen.val ∧ BusFrame s t ∧
    (reservedAddr (a.setWidth 5) = false → s.callLen.val ≤ (regWidth (a.setWidth 5)).getD 32 → a.setWidth 5 ≠ (0x07 : BitVec 5) →
      (∀ i, i < s.callLen.val → t.devReg (a.setWidth 5) i = s.hdata.toList.getD i 0) ∧ KeepsFlags s t ∧
      SameCells s t ((List.range s.callLen.val).map (cellOf (a.setWidth 5)))) ∧
    (s.callLen = 0 → SameCells s t [] ∧ KeepsFlags s t) ∧
    (configOk s.cfg = true → a.setWidth 5 = (0x07 : BitVec 5) → s.callLen = 1 → SameCells s t [] ∧
      (s.hdata[0].getLsbD 6 = true → t.dev.flags.dataReady = false) ∧
      (s.hdata[0].getLsbD 5 = true → t.dev.flags.dataSent = false) ∧
      (s.hdata[0].getLsbD 4 = true → t.dev.flags.maxRt = false) ∧ KeepsFlagsBut s.hdata[0] s t) ∧
    (if a.setWidth 5 = (0x00 : BitVec 5) ∧ s.callLen ≠ 0 then
      t.pwrS = s.hdata[0].getLsbD s.cfg.powerBit ∧ t.rxS = s.hdata[0].getLsbD s.cfg.rxmodeBit
    else SameShadows s t)

/-- R108: a payload read is exactly `payload_size` exchanges that send `FILL`; where the widths agree it changes no register and
clears no flag, and with a device that answers as assumed (R38, log 5) whose radio is quiet it returns the oldest received payload. -/
def Obligations.ReadRxPayloadCompletes : Prop :=
  ∀ s : State, ∃ (t : State) (st : Byte) (ins : List Byte),
    exec .readRxPayload s = .next t ∧ ins.length = s.payloadSize.toNat ∧
    t.trace = s.trace ++ txn 0x61 st (List.replicate s.payloadSize.toNat s.cfg.fill) ins ∧
    t.dataIn = ins ∧ t.statusL = st ∧ t.csn = true ∧ t.idx = s.payloadSize ∧ BusFrame s t ∧ SameShadows s t ∧
    (s.widthAgrees = true → SameCells s t [] ∧ KeepsFlags s t) ∧
    (∀ (payload : Payload) (later : List Payload), s.conforming = true → s.inited = true → s.widthAgrees = true →
      s.QuietFor (s.payloadSize.toNat + 1) → s.dev.rxFifo = payload :: later → payload.length = s.payloadSize.toNat →
      t.dataIn = payload)

/-- R109: a payload load is `n` bytes of `HDATA` and zeros up to `payload_size`, and becomes the last payload of the
transmit FIFO, in which the radio may have left fewer (log 6). -/
def Obligations.WriteTxPayloadCompletes : Prop :=
  ∀ s : State, s.payloadSize.toNat ≤ 32 → ∃ (t : State) (st : Byte) (ins out : List Byte) (queued : List Payload),
    exec .writeTxPayload s = .next t ∧ out.length = s.payloadSize.toNat ∧ ins.length = out.length ∧
    (∀ i, i < out.length → out.getD i 0 = if i < s.callLen.val then s.hdata.toList.getD i 0 else 0) ∧
    t.trace = s.trace ++ txn 0xA0 st out ins ∧ t.dev.txFifo = queued ++ [out] ∧
    t.statusL = st ∧ t.csn = true ∧ t.idx = s.payloadSize ∧ BusFrame s t ∧ SameShadows s t ∧ SameCells s t [] ∧
    KeepsFlags s t ∧ queued.Sublist s.dev.txFifo

/-- R38(a), S9: with a device that returns what was written, the bytes a write puts into a register the engine writes are the bytes
the next read of it returns. -/
def Obligations.ReadReturnsWhatWasWritten : Prop :=
  ∀ (s t u : State) (a : Byte), s.conforming = true → s.inited = true → Memory.wf s.dev.regs = true →
    storesBytes (a.setWidth 5) = true → s.callLen.val ≤ (regWidth (a.setWidth 5)).getD 0 →
    exec (.writeRegister a) s = .next t → exec (.readRegister a) t = .next u →
    u.dataIn = s.hdata.toList.take s.callLen.val

/-! ## Modes -/

/-- R142: SET_TX_MODE reads the configuration, writes it back with the receive-mode bit clear, drops `CE` and waits 1000 μs; MODE
passes through the transmit-configured mode with the old `CE` (R243); no flag is cleared. -/
def Obligations.SetTxModeCompletes : Prop :=
  ∀ (s : State) (arg : Byte), s.Ready → ∃ (t : State) (st v st' r : Byte),
    exec (.setTxMode arg) s = .next t ∧
    t.trace = s.trace ++ txn 0x00 st [s.cfg.fill] [v] ++ txn 0x20 st' [v &&& ~~~(rxMask s.cfg)] [r] ++ [.ce0, .w 1000] ∧
    EndedWith true t ∧ t.ce = false ∧ t.rxS = false ∧ t.pwrS = v.getLsbD s.cfg.powerBit ∧ t.statusL = st' ∧
    t.modes.map Prod.snd = s.modes.map Prod.snd ++ [modeOf t.pwrS false s.ce, modeOf t.pwrS false false] ∧
    s.now + 1000 ≤ t.now ∧ t.payloadSize = s.payloadSize ∧ t.inited = s.inited ∧ t.t0 = s.t0 ∧ SameResults s t ∧ SameInputs s t ∧
    KeepsFlags s t ∧ (Memory.wf s.dev.regs = true →
      t.devReg 0x00 0 = v &&& ~~~(rxMask s.cfg) ∧ SameCells s t [cellOf 0x00 0])

/-- R143: SET_RX_MODE writes the configuration back with the receive-mode bit set, raises `CE` and waits the receive settle time. -/
def Obligations.SetRxModeCompletes : Prop :=
  ∀ (s : State) (arg : Byte), s.Ready → ∃ (t : State) (st v st' r : Byte),
    exec (.setRxMode arg) s = .next t ∧
    t.trace = s.trace ++ txn 0x00 st [s.cfg.fill] [v] ++ txn 0x20 st' [v ||| rxMask s.cfg] [r] ++ [.ce1, .w s.cfg.tSettleRxUs] ∧
    EndedWith true t ∧ t.ce = true ∧ t.rxS = true ∧ t.pwrS = v.getLsbD s.cfg.powerBit ∧ t.statusL = st' ∧
    t.modes.map Prod.snd = s.modes.map Prod.snd ++ [modeOf t.pwrS true s.ce, modeOf t.pwrS true true] ∧
    s.now + s.cfg.tSettleRxUs ≤ t.now ∧ t.payloadSize = s.payloadSize ∧ t.inited = s.inited ∧ t.t0 = s.t0 ∧ SameResults s t ∧
    SameInputs s t ∧
    KeepsFlags s t ∧ (Memory.wf s.dev.regs = true →
      t.devReg 0x00 0 = v ||| rxMask s.cfg ∧ SameCells s t [cellOf 0x00 0])

/-- R144: POWER_UP writes the configuration back with the power bit set and waits 5000 μs; `CE` is not touched. -/
def Obligations.PowerUpCompletes : Prop :=
  ∀ (s : State) (arg : Byte), s.Ready → ∃ (t : State) (st v st' r : Byte),
    exec (.powerUp arg) s = .next t ∧
    t.trace = s.trace ++ txn 0x00 st [s.cfg.fill] [v] ++ txn 0x20 st' [v ||| pwrMask s.cfg] [r] ++ [.w 5000] ∧
    EndedWith true t ∧ t.ce = s.ce ∧ t.pwrS = true ∧ t.rxS = v.getLsbD s.cfg.rxmodeBit ∧ t.statusL = st' ∧
    t.modes.map Prod.snd = s.modes.map Prod.snd ++ [modeOf true t.rxS s.ce] ∧
    s.now + 5000 ≤ t.now ∧ t.payloadSize = s.payloadSize ∧ t.inited = s.inited ∧ t.t0 = s.t0 ∧ SameResults s t ∧ SameInputs s t ∧
    KeepsFlags s t ∧ (Memory.wf s.dev.regs = true →
      t.devReg 0x00 0 = v ||| pwrMask s.cfg ∧ SameCells s t [cellOf 0x00 0])

/-- R145: POWER_DOWN writes the configuration back with the power bit clear; no wait is made and `CE` is not touched. What the device
keeps of its registers and flags is under the premise of R38 (U19, N10, log 25). -/
def Obligations.PowerDownCompletes : Prop :=
  ∀ (s : State) (arg : Byte), s.Ready → ∃ (t : State) (st v st' r : Byte),
    exec (.powerDown arg) s = .next t ∧
    t.trace = s.trace ++ txn 0x00 st [s.cfg.fill] [v] ++ txn 0x20 st' [v &&& ~~~(pwrMask s.cfg)] [r] ∧
    EndedWith true t ∧ t.ce = s.ce ∧ t.pwrS = false ∧ t.rxS = v.getLsbD s.cfg.rxmodeBit ∧ t.mode = .powerDown ∧ t.statusL = st' ∧
    t.ticks = s.ticks ∧ t.payloadSize = s.payloadSize ∧ t.inited = s.inited ∧ t.t0 = s.t0 ∧ SameResults s t ∧ SameInputs s t ∧
    (s.conforming = true → KeepsFlags s t) ∧ (s.conforming = true → Memory.wf s.dev.regs = true →
      t.devReg 0x00 0 = v &&& ~~~(pwrMask s.cfg) ∧ SameCells s t [cellOf 0x00 0])

/-- R141: with a device that returns what was written, each mode and power operation changes its own bit of register 0x00 and no
other bit. -/
def Obligations.ConfigUpdateChangesOneBit : Prop :=
  ∀ (s : State) (arg : Byte), s.conforming = true → s.inited = true → Memory.wf s.dev.regs = true →
    ∀ p ∈ [(Instr.setTxMode arg, s.cfg.rxmodeBit, false), (.setRxMode arg, s.cfg.rxmodeBit, true),
        (.powerUp arg, s.cfg.powerBit, true), (.powerDown arg, s.cfg.powerBit, false)],
      ∃ (t : State), exec p.1 s = .next t ∧
        ∀ j : Fin 8, (t.devReg 0x00 0).getLsbD j = if j = p.2.1 then p.2.2 else (s.devReg 0x00 0).getLsbD j

/-- R25: the mode table and the codes. -/
def Obligations.ModeTable : Prop :=
  ∀ rx ce : Bool, modeOf false rx ce = .powerDown ∧ modeOf true false false = .standbyTxConfigured ∧
    modeOf true true false = .standbyRxConfigured ∧ modeOf true false true = .activeTx ∧ modeOf true true true = .activeRx ∧
    modeCode .powerDown = 0 ∧ modeCode .standbyTxConfigured = 1 ∧ modeCode .standbyRxConfigured = 2 ∧ modeCode .activeTx = 3 ∧
    modeCode .activeRx = 4

/-- R149, R146: the events of INIT, in the order of its pseudocode, and what it writes in the engine; `payload_size` is read only. MODE
follows `CE`, each byte the table writes to register 0x00, and the final power up. -/
def Obligations.InitCompletes : Prop :=
  ∀ (s : State) (arg : Byte), configOk s.cfg = true → ∃ (t : State) (replies : List (Byte × Byte)) (st11 r11 stTx stRx st07 r07 st v st' r : Byte),
    exec (.init arg) s = .next t ∧ replies.length = s.cfg.initTable.length ∧
    t.trace = s.trace ++ [.desel, .ce0]
      ++ (List.zipWith (fun e q => txn (0x20 ||| e.1.setWidth 8) q.1 [e.2] [q.2]) s.cfg.initTable replies).flatten
      ++ txn 0x31 st11 [s.payloadSize.setWidth 8] [r11] ++ txn 0xE1 stTx [] [] ++ txn 0xE2 stRx [] []
      ++ txn 0x27 st07 [s.cfg.clrAll] [r07]
      ++ txn 0x00 st [s.cfg.fill] [v] ++ txn 0x20 st' [v ||| pwrMask s.cfg] [r] ++ [.w 5000] ∧
    EndedWith true t ∧ t.inited = true ∧ t.ce = false ∧ t.pwrS = true ∧
    t.rxS = (v ||| pwrMask s.cfg).getLsbD s.cfg.rxmodeBit ∧ t.statusL = st' ∧ t.payloadSize = s.payloadSize ∧
    t.t0 = s.t0 ∧ SameResults s t ∧ SameInputs s t ∧ s.now + 5000 ≤ t.now ∧
    t.modes.map Prod.snd = s.modes.map Prod.snd ++ [modeOf s.pwrS s.rxS false]
      ++ (s.cfg.initTable.filter (fun e => e.1 == 0x00)).map
        (fun e => modeOf (e.2.getLsbD s.cfg.powerBit) (e.2.getLsbD s.cfg.rxmodeBit) false)
      ++ [modeOf true t.rxS false]

/-- R149: after INIT every register of `INIT_TABLE` but 0x00, which the power up rewrites, holds its entry, the pipe-0 width holds
`payload_size`, and no other register is written. R235 gives the device's registers under R38; that they are kept without that premise,
while INIT's own table has the power bit clear, is the model's choice (DESIGN CHOICE, log 25). -/
def Obligations.InitWritesTheTable : Prop :=
  ∀ (s : State) (arg : Byte), configOk s.cfg = true → Memory.wf s.dev.regs = true → ∃ (t : State), exec (.init arg) s = .next t ∧
    (∀ e ∈ s.cfg.initTable, e.1 ≠ 0x00 → t.devReg e.1 0 = e.2) ∧ t.devReg 0x11 0 = s.payloadSize.setWidth 8 ∧
    SameCells s t (cellOf 0x00 0 :: cellOf 0x11 0 :: s.cfg.initTable.map (fun e => cellOf e.1 0))

/-- R235: what INIT leaves, given a device that stores what is written and does nothing of its own meanwhile, and a clearing byte that
names the three flags. -/
def Obligations.InitEndState : Prop :=
  ∀ (s : State) (arg : Byte), s.conforming = true → configOk s.cfg = true → Memory.wf s.dev.regs = true →
    s.cfg.clrAll &&& 0x70 = 0x70 → s.QuietFor (2 * s.cfg.initTable.length + 10) →
    ∃ (t : State), exec (.init arg) s = .next t ∧ t.mode = .standbyTxConfigured ∧ t.ce = false ∧ t.rxS = false ∧ t.pwrS = true ∧
      (t.devReg 0x00 0).getLsbD s.cfg.rxmodeBit = false ∧ (t.devReg 0x00 0).getLsbD s.cfg.powerBit = true ∧
      t.dev.txFifo = [] ∧ t.dev.rxFifo = [] ∧ t.dev.flags = { dataReady := false, dataSent := false, maxRt := false } ∧
      t.devReg 0x11 0 = s.payloadSize.setWidth 8 ∧ t.inited = true

/-! ## Packet transfer -/

/-- R162: the data phase of a load is always `payload_size` bytes: the first `min(arg, payload_size)` of `HDATA`, then zeros. -/
def Obligations.PayloadTruncatedAndPadded : Prop :=
  ∀ (hdata : Vector Byte 32) (arg : Byte) (p : BitVec 6), p.toNat ≤ 32 →
    (framedPayload hdata (transmitLen arg p) p).length = p.toNat ∧
    ∀ i, i < p.toNat →
      (framedPayload hdata (transmitLen arg p) p).getD i 0 = if i < min arg.toNat p.toNat then hdata.toList.getD i 0 else 0

/-- R160, R146: TRANSMIT ends in every state, with `CE` low and the device transmit-configured, and writes no other host register;
the transmit FIFO then holds at most the payload loaded (R161; that the radio adds none is log 6's). -/
def Obligations.TransmitCompletes : Prop :=
  ∀ (s : State) (arg : Byte), s.Ready → ∃ (t : State), exec (.transmit arg) s = .next t ∧ t.busy = false ∧ t.seq = .idle ∧ t.csn = true ∧
    t.ce = false ∧ t.rxS = false ∧ t.payloadSize = s.payloadSize ∧ t.inited = s.inited ∧ SameResults s t ∧ SameInputs s t ∧
    t.dev.txFifo.Sublist [framedPayload s.hdata (min arg.toNat s.payloadSize.toNat) s.payloadSize] ∧
    (Memory.wf s.dev.regs = true → SameCells s t [cellOf 0x00 0])

/-- R161, R109: when chip-enable rises the transmit FIFO holds the payload just loaded and nothing that was queued before. R161 says at most
that one; that it is there exactly rests on R109 (the load becomes one queued payload) and on log 6 (DESIGN CHOICE, unsafe: a load always
appends, and the radio acts at exchanges only). -/
def Obligations.TransmitQueuesOnePayload : Prop :=
  ∀ (s : State) (arg : Byte), s.Ready → ∃ (u : State),
    loadAndFire arg s = startTimer (pulseCE u) ∧
    u.dev.txFifo = [framedPayload s.hdata (min arg.toNat s.payloadSize.toNat) s.payloadSize]

/-- R160 to R168: the whole of TRANSMIT at the device port, and which of the three exits it takes: passes that showed neither flag,
at most `ceil(T_TIMEOUT_US / T_POLL_US)` status queries, then success on bit 5, max retransmits on bit 4 without bit 5, or the
deadline. `STATUS_L` is the last command exchange's status byte. The bound is R164's derived one, the orders are D15 and D16. -/
def Obligations.TransmitEvents : Prop :=
  ∀ (s : State) (arg : Byte), s.Ready → ∃ (t : State) (st v st' r stF stL : Byte) (ins quiet : List Byte) (last : List Event),
    exec (.transmit arg) s = .next t ∧
    t.trace = s.trace ++ txn 0x00 st [s.cfg.fill] [v] ++ txn 0x20 st' [v &&& ~~~(rxMask s.cfg)] [r] ++ [.ce0, .w 1000]
      ++ txn 0xE1 stF [] [] ++ txn 0xA0 stL (framedPayload s.hdata (min arg.toNat s.payloadSize.toNat) s.payloadSize) ins
      ++ [.ce1, .w 15, .ce0, .t] ++ (quiet.map (passEvents s.cfg.tPollUs)).flatten ++ last ∧
    t.pwrS = (v &&& ~~~(rxMask s.cfg)).getLsbD s.cfg.powerBit ∧
    ins.length = (framedPayload s.hdata (min arg.toNat s.payloadSize.toNat) s.payloadSize).length ∧
    (∀ q ∈ quiet, q.getLsbD 5 = false ∧ q.getLsbD 4 = false) ∧
    ((∃ (stQ stC rC : Byte), stQ.getLsbD 5 = true ∧ last = .t :: txn 0xFF stQ [] [] ++ txn 0x27 stC [s.cfg.clrDs] [rC] ∧
        t.result = true ∧ t.statusL = stC ∧ quiet.length + 1 ≤ (100000 + s.cfg.tPollUs - 1) / s.cfg.tPollUs) ∨
      (∃ (stQ stC rC stE : Byte), stQ.getLsbD 5 = false ∧ stQ.getLsbD 4 = true ∧
        last = .t :: txn 0xFF stQ [] [] ++ txn 0x27 stC [s.cfg.clrMr] [rC] ++ txn 0xE1 stE [] [] ∧
        t.result = false ∧ t.statusL = stE ∧ quiet.length + 1 ≤ (100000 + s.cfg.tPollUs - 1) / s.cfg.tPollUs) ∨
      (last = [.t] ∧ t.result = false ∧ t.statusL = quiet.getLastD stL ∧ 100000 ≤ t.now - t.t0 ∧
        quiet.length ≤ (100000 + s.cfg.tPollUs - 1) / s.cfg.tPollUs))

/-- R163, R146: the values MODE takes in TRANSMIT: the mode switch of SET_TX_MODE, then the transmit mode for the pulse. -/
def Obligations.TransmitModeTransients : Prop :=
  ∀ (s : State) (arg : Byte), s.Ready → ∃ (t : State) (p : Bool),
    exec (.transmit arg) s = .next t ∧ t.pwrS = p ∧ t.rxS = false ∧ t.ce = false ∧
    t.modes.map Prod.snd = s.modes.map Prod.snd ++
      [modeOf p false s.ce, modeOf p false false, modeOf p false true, modeOf p false false]

/-- R165, S4: when the first status byte after the pulse shows bit 5 before the deadline, TRANSMIT succeeds and the data-sent flag is
then clear, whatever bit 4 is; a flag whose bit the clearing byte lacks is kept. -/
def Obligations.TransmitSucceedsOnDataSent : Prop :=
  ∀ (s : State) (arg : Byte), s.Ready → s.conforming = false → s.payloadSize.toNat ≤ 32 →
    s.delayAt 3 < 100000 → (s.byteAt (6 + s.payloadSize.toNat)).getLsbD 5 = true →
    ∃ (t : State), exec (.transmit arg) s = .next t ∧ EndedWith true t ∧ t.ce = false ∧
      (s.cfg.clrDs.getLsbD 5 = true → t.dev.flags.dataSent = false) ∧ KeepsFlagsBut s.cfg.clrDs s t

/-- R166, S5: when it shows bit 4 without bit 5, TRANSMIT fails and the transmit FIFO is empty; the max-retransmit flag is then clear,
where the radio does not set it again before the flush; a flag whose bit the clearing byte lacks is kept. -/
def Obligations.TransmitFailsOnMaxRetransmits : Prop :=
  ∀ (s : State) (arg : Byte), s.Ready → s.conforming = false → s.payloadSize.toNat ≤ 32 →
    s.delayAt 3 < 100000 → (s.byteAt (6 + s.payloadSize.toNat)).getLsbD 5 = false →
    (s.byteAt (6 + s.payloadSize.toNat)).getLsbD 4 = true →
    ∃ (t : State), exec (.transmit arg) s = .next t ∧ EndedWith false t ∧ t.ce = false ∧
      t.dev.txFifo = [] ∧ KeepsFlagsBut s.cfg.clrMr s t ∧
      (s.cfg.clrMr.getLsbD 4 = true →
        (s.answers[s.drawn + (9 + s.payloadSize.toNat)]?).map DevAnswer.radio = some Radio.quiet → t.dev.flags.maxRt = false)

/-- R167, V29: when the deadline has passed at the first test, TRANSMIT fails without a status query or clearing write: its events end
with the pulse and the two time reads, no flag is cleared, and the payload it loaded stays queued. That the transmit FIFO holds it exactly rests on R109
and on log 6 (DESIGN CHOICE, unsafe: a load always appends, and the radio acts at exchanges only). -/
def Obligations.TransmitTimesOut : Prop :=
  ∀ (s : State) (arg : Byte), s.Ready → 100000 ≤ s.delayAt 3 →
    ∃ (t : State) (st v st' r stF stL : Byte) (ins : List Byte), exec (.transmit arg) s = .next t ∧ EndedWith false t ∧ t.ce = false ∧
      t.trace = s.trace ++ txn 0x00 st [s.cfg.fill] [v] ++ txn 0x20 st' [v &&& ~~~(rxMask s.cfg)] [r] ++ [.ce0, .w 1000]
        ++ txn 0xE1 stF [] [] ++ txn 0xA0 stL (framedPayload s.hdata (min arg.toNat s.payloadSize.toNat) s.payloadSize) ins
        ++ [.ce1, .w 15, .ce0, .t, .t] ∧
      t.statusL = stL ∧ KeepsFlags s t ∧
      t.dev.txFifo = [framedPayload s.hdata (min arg.toNat s.payloadSize.toNat) s.payloadSize]

/-- R164, R220: the loop ends by its deadline: more than `ceil(T_TIMEOUT_US / T_POLL_US)` passes allowed make no difference. -/
def Obligations.PollLoopEndsByDeadline : Prop :=
  ∀ (s : State) (arg : Byte) (more : Nat), s.Ready →
    pollLoop (pollBound s.cfg + more) (loadAndFire arg s) = pollLoop (pollBound s.cfg) (loadAndFire arg s)

/-- R171 to R174: RECEIVE switches to receive mode, queries the status once, and either ends with 0 and no change of its buffers
(bit 6 clear) or reads exactly `payload_size` bytes into `RXBUF`, sets `RXLEN`, clears the flag and ends with 1. `STATUS_L` is the last command
exchange's status byte; MODE passes through the receive-configured mode with the old `CE` (R146). -/
def Obligations.ReceiveCompletes : Prop :=
  ∀ (s : State) (arg : Byte), s.Ready → s.widthAgrees = true → ∃ (t : State) (st v st' r stQ : Byte) (last : List Event),
    exec (.receive arg) s = .next t ∧
    t.trace = s.trace ++ txn 0x00 st [s.cfg.fill] [v] ++ txn 0x20 st' [v ||| rxMask s.cfg] [r] ++ [.ce1, .w s.cfg.tSettleRxUs]
      ++ txn 0xFF stQ [] [] ++ last ∧
    t.busy = false ∧ t.seq = .idle ∧ t.csn = true ∧ t.ce = true ∧ t.rxS = true ∧ t.pwrS = v.getLsbD s.cfg.powerBit ∧
    t.payloadSize = s.payloadSize ∧ t.rbyte = s.rbyte ∧ t.inited = s.inited ∧ t.t0 = s.t0 ∧ SameInputs s t ∧
    t.modes.map Prod.snd = s.modes.map Prod.snd ++ [modeOf t.pwrS true s.ce, modeOf t.pwrS true true] ∧
    (Memory.wf s.dev.regs = true → t.devReg 0x00 0 = v ||| rxMask s.cfg ∧ SameCells s t [cellOf 0x00 0]) ∧
    ((stQ.getLsbD 6 = false ∧ last = [] ∧ t.result = false ∧ t.statusL = stQ ∧ t.rxlen = s.rxlen ∧ t.rxbuf = s.rxbuf) ∨
      (∃ (st61 : Byte) (ins : List Byte) (st07 r07 : Byte), stQ.getLsbD 6 = true ∧ ins.length = s.payloadSize.toNat ∧
        last = txn 0x61 st61 (List.replicate s.payloadSize.toNat s.cfg.fill) ins ++ txn 0x27 st07 [s.cfg.clrDr] [r07] ∧
        t.result = true ∧ t.statusL = st07 ∧ t.rxlen = s.payloadSize ∧ ∀ i (h : i < 32), t.rxbuf[i] = ins.getD i s.rxbuf[i]))

/-- R173: with the data-ready bit clear in the one status byte, RECEIVE returns 0 and clears no flag. -/
def Obligations.ReceiveWithoutData : Prop :=
  ∀ (s : State) (arg : Byte), s.Ready → s.widthAgrees = true → s.conforming = false → (s.byteAt 4).getLsbD 6 = false →
    ∃ (t : State), exec (.receive arg) s = .next t ∧ EndedWith false t ∧ t.ce = true ∧ SameResults s t ∧ KeepsFlags s t ∧
      (Memory.wf s.dev.regs = true → SameCells s t [cellOf 0x00 0])

/-- R172, R174: with the data-ready bit set, RECEIVE returns 1 with the bytes the device returned; the flag is then clear, and
a flag whose bit the clearing byte lacks is kept. -/
def Obligations.ReceiveWithData : Prop :=
  ∀ (s : State) (arg : Byte), s.Ready → s.widthAgrees = true → s.conforming = false → (s.byteAt 4).getLsbD 6 = true →
    ∃ (t : State), exec (.receive arg) s = .next t ∧ EndedWith true t ∧ t.ce = true ∧ t.rxlen = s.payloadSize ∧ t.rbyte = s.rbyte ∧
      (∀ i (h : i < 32), t.rxbuf[i] = if i < s.payloadSize.toNat then s.byteAt (6 + i) else s.rxbuf[i]) ∧
      (s.cfg.clrDr.getLsbD 6 = true → t.dev.flags.dataReady = false) ∧
      (Memory.wf s.dev.regs = true → KeepsFlagsBut s.cfg.clrDr s t ∧ SameCells s t [cellOf 0x00 0])

/-- R108, R172, R174: with a device that answers as assumed (R38, log 5), has its data-ready flag set and does nothing of its own
meanwhile, RECEIVE returns 1 with the bytes of the oldest received payload. -/
def Obligations.ReceiveReturnsOldestPayload : Prop :=
  ∀ (s : State) (arg : Byte) (payload : Payload) (later : List Payload), s.Synced → s.QuietFor (s.payloadSize.toNat + 8) →
    s.dev.flags.dataReady = true → s.dev.rxFifo = payload :: later → payload.length = s.payloadSize.toNat →
    ∃ (t : State), exec (.receive arg) s = .next t ∧ t.result = true ∧ t.rxlen = s.payloadSize ∧
      (∀ i (h : i < 32), t.rxbuf[i] = payload.getD i s.rxbuf[i]) ∧
      (s.cfg.clrDr.getLsbD 6 = true → t.dev.flags.dataReady = false) ∧ KeepsFlagsBut s.cfg.clrDr s t

/-- S7, R174: with a device that keeps its registers and does nothing of its own, RECEIVE straight after a successful RECEIVE
returns 0, if the clearing byte `CLR_DR` has bit 6 (R37's convention; PRESUMED, log 8). -/
def Obligations.RepeatedReceiveReturnsFalse : Prop :=
  ∀ (s t : State) (arg arg' : Byte), s.Synced → s.QuietFor (s.payloadSize.toNat + 13) → s.cfg.clrDr.getLsbD 6 = true →
    exec (.receive arg) s = .next t → t.result = true →
    ∃ (u : State), exec (.receive arg') t = .next u ∧ u.result = false ∧ u.rxbuf = t.rxbuf ∧ u.rxlen = t.rxlen

/-! ## Configuration operations -/

/-- R190, R198: SET_CHANNEL writes `min(arg, 125)` to register 0x05 and nothing else; CE, the shadows, the flags and the FIFOs are left
alone. -/
def Obligations.SetChannelCompletes : Prop :=
  ∀ (s : State) (arg : Byte), s.Ready → ∃ (t : State) (st r : Byte), exec (.setChannel arg) s = .next t ∧
    t.trace = s.trace ++ txn 0x25 st [BitVec.ofNat 8 (min arg.toNat 125)] [r] ∧ EndedWith true t ∧ t.statusL = st ∧
    SameMode s t ∧ t.payloadSize = s.payloadSize ∧ t.inited = s.inited ∧ t.t0 = s.t0 ∧ t.ticks = s.ticks ∧ SameResults s t ∧
    SameInputs s t ∧
    KeepsFlags s t ∧ KeepsQueues 2 s t ∧ (Memory.wf s.dev.regs = true →
      t.devReg 0x05 0 = BitVec.ofNat 8 (min arg.toNat 125) ∧ SameCells s t [cellOf 0x05 0])

/-- R192, R198: SET_PAYLOAD_SIZE writes `clamp(arg, 1, 32)` to `payload_size` and to register 0x11; CE, the shadows, the flags and
the FIFOs are left alone. -/
def Obligations.SetPayloadSizeCompletes : Prop :=
  ∀ (s : State) (arg : Byte), s.Ready → ∃ (t : State) (st r : Byte), exec (.setPayloadSize arg) s = .next t ∧
    t.trace = s.trace ++ txn 0x31 st [BitVec.ofNat 8 (max 1 (min arg.toNat 32))] [r] ∧ EndedWith true t ∧ t.statusL = st ∧
    t.payloadSize.toNat = max 1 (min arg.toNat 32) ∧
    SameMode s t ∧ t.inited = s.inited ∧ t.t0 = s.t0 ∧ t.ticks = s.ticks ∧ SameResults s t ∧ SameInputs s t ∧
    KeepsFlags s t ∧ KeepsQueues 2 s t ∧ (Memory.wf s.dev.regs = true →
      t.devReg 0x11 0 = BitVec.ofNat 8 (max 1 (min arg.toNat 32)) ∧ SameCells s t [cellOf 0x11 0])

/-- R194, R198: SET_ADDRESS writes `HDATA[0..4]` to 0x10 and then to 0x0A; CE, the shadows, the flags and the FIFOs are left alone. -/
def Obligations.SetAddressCompletes : Prop :=
  ∀ (s : State) (arg : Byte), s.Ready → ∃ (t : State) (st : Byte) (ins : List Byte) (st' : Byte) (ins' : List Byte),
    exec (.setAddress arg) s = .next t ∧ ins.length = 5 ∧ ins'.length = 5 ∧
    t.trace = s.trace ++ txn 0x30 st (s.hdata.toList.take 5) ins ++ txn 0x2A st' (s.hdata.toList.take 5) ins' ∧
    EndedWith true t ∧ t.statusL = st' ∧ SameMode s t ∧ t.payloadSize = s.payloadSize ∧ t.inited = s.inited ∧ t.t0 = s.t0 ∧
    t.ticks = s.ticks ∧ SameResults s t ∧ SameInputs s t ∧
    KeepsFlags s t ∧ KeepsQueues 12 s t ∧ (Memory.wf s.dev.regs = true →
      (∀ i, i < 5 → t.devReg 0x10 i = s.hdata.toList.getD i 0 ∧ t.devReg 0x0A i = s.hdata.toList.getD i 0) ∧
      SameCells s t ((List.range 5).map (cellOf 0x10) ++ (List.range 5).map (cellOf 0x0A)))

/-- R196: GET_STATUS returns the status byte of a no-op in `RBYTE` and clears no flag. -/
def Obligations.GetStatusCompletes : Prop :=
  ∀ (s : State) (arg : Byte), s.Ready → ∃ (t : State) (st : Byte), exec (.getStatus arg) s = .next t ∧
    t.trace = s.trace ++ [.sel, .x 0xFF st, .desel] ∧
    EndedWith true t ∧ t.rbyte = st ∧ t.statusL = st ∧ SameMode s t ∧ t.payloadSize = s.payloadSize ∧ t.inited = s.inited ∧
    t.t0 = s.t0 ∧ t.ticks = s.ticks ∧ t.rxlen = s.rxlen ∧ t.rxbuf = s.rxbuf ∧ SameInputs s t ∧
    SameCells s t [] ∧ KeepsFlags s t ∧ KeepsQueues 1 s t

/-- S1: with a device that returns what was written, reading register 0x11 after SET_PAYLOAD_SIZE yields the clamped size. -/
def Obligations.PayloadSizeReadback : Prop :=
  ∀ (s t u : State) (arg : Byte), s.Ready → s.conforming = true → Memory.wf s.dev.regs = true → s.callLen = 1 →
    exec (.setPayloadSize arg) s = .next t → exec (.readRegister 0x11) t = .next u →
    u.dataIn = [BitVec.ofNat 8 (max 1 (min arg.toNat 32))]

/-- S9: with such a device, reading either address register after SET_ADDRESS yields `HDATA[0..4]`. -/
def Obligations.AddressReadback : Prop :=
  ∀ (s t u : State) (arg a : Byte), s.Ready → s.conforming = true → Memory.wf s.dev.regs = true → s.callLen = 5 →
    a = 0x10 ∨ a = 0x0A → exec (.setAddress arg) s = .next t → exec (.readRegister a) t = .next u →
    u.dataIn = s.hdata.toList.take 5

/-! ## The whole machine -/

/-- The invariant holds at reset. R45 and U13 leave RXLEN, idx and t0 open there; that they are in range rests on log 2's zeros. -/
def Obligations.InvariantAtReset : Prop := State.reset.Inv

/-- R21, R23, R32, R101: every step keeps the invariant, from every state that has it. After a reset move the ranges of RXLEN, idx
and t0 rest on log 13's zeros (U13), and that the engine is idle between steps is log 1's grain of a step. -/
def Obligations.StepKeepsInvariant : Prop :=
  ∀ s t : State, s.Inv → step s = .next t → t.Inv

/-- R146, R239: with a device that returns what was written, every host operation keeps the shadows equal to the bits of register
0x00, the widths equal and `CE` equal to the receive-mode bit, so that the mode at rest is PowerDown, StandbyTxConfigured or
ActiveRx. -/
def Obligations.HostOperationsKeepModesInStep : Prop :=
  ∀ (s t : State) (op : BitVec 4) (arg : Byte) (i : Instr), decode (.host (op ++ arg)) = .ok i → s.Synced →
    exec i s = .next t →
    t.Synced ∧ (t.mode = .powerDown ∨ t.mode = .standbyTxConfigured ∨ t.mode = .activeRx)

/-- R146: INIT establishes it. -/
def Obligations.InitEstablishesModesInStep : Prop :=
  ∀ (s t : State) (arg : Byte), s.conforming = true → configOk s.cfg = true → Memory.wf s.dev.regs = true →
    exec (.init arg) s = .next t → t.Synced ∧ t.mode = .standbyTxConfigured

/-- R220, R200: every instruction whose preconditions hold ends in a next state, whatever the state otherwise. That every
exchange and every wait returns is the assumption on the platform that R220 asks for, here part of the model (log 27). -/
def Obligations.EveryInstructionEnds : Prop :=
  ∀ (i : Instr) (s : State), s.Allows (encode i) → ∃ (t : State), exec i s = .next t

/-- R21, R28, R30, R26, R22: which instructions write `payload_size`, `RBYTE`, `RXLEN` and `RXBUF`, `inited`, `CE` and `RESULT`. -/
def Obligations.RegistersHaveTheirWriters : Prop :=
  ∀ (i : Instr) (s t : State), s.Allows (encode i) → exec i s = .next t →
    ((∀ arg, i ≠ .setPayloadSize arg) → t.payloadSize = s.payloadSize) ∧
    ((∀ arg, i ≠ .getStatus arg) → t.rbyte = s.rbyte) ∧
    ((∀ arg, i ≠ .receive arg) → t.rxlen = s.rxlen ∧ t.rxbuf = s.rxbuf) ∧
    ((∀ arg, i ≠ .init arg) → t.inited = s.inited) ∧
    ((∀ arg, i ≠ .transmit arg ∧ i ≠ .receive arg) → t.result = true ∨ t.result = s.result) ∧
    ((∀ arg, i ≠ .init arg ∧ i ≠ .setTxMode arg ∧ i ≠ .setRxMode arg ∧ i ≠ .transmit arg ∧ i ≠ .receive arg) → t.ce = s.ce) ∧
    SameInputs s t

/-- R70, R217, R218: an instruction only adds events to the trace, and time does not run backwards. -/
def Obligations.TraceAndTimeOnlyGrow : Prop :=
  ∀ (i : Instr) (s t : State), s.Allows (encode i) → exec i s = .next t →
    (∃ (es : List Event), t.trace = s.trace ++ es) ∧ s.now ≤ t.now ∧ s.drawn < t.drawn

/-- R81: the operations that take no argument ignore the `arg` byte of their word. -/
def Obligations.ArgumentIgnored : Prop :=
  ∀ (a b : Byte) (s : State), exec (.init a) s = exec (.init b) s ∧
    (s.inited = true → exec (.setTxMode a) s = exec (.setTxMode b) s ∧ exec (.setRxMode a) s = exec (.setRxMode b) s ∧
      exec (.setAddress a) s = exec (.setAddress b) s ∧ exec (.getStatus a) s = exec (.getStatus b) s ∧
      exec (.powerUp a) s = exec (.powerUp b) s ∧ exec (.powerDown a) s = exec (.powerDown b) s ∧
      (s.widthAgrees = true → exec (.receive a) s = exec (.receive b) s))

/-- R26, R236: the engine does not test `inited`: an instruction other than INIT ends before INIT as well as after it, and does the same to
the engine as it does after INIT on a device that is an oracle; only the device is then unspecified (log 10). This is R236's own sentence
on the engine, so `inited` = 1 is no premise; that the widths agree is, for RECEIVE (U1). -/
def Obligations.EngineRunsUnchangedBeforeInit : Prop :=
  ∀ (i : Instr) (s t : State), s.conforming = false ∨ s.seq = .idle → (∀ arg, i ≠ .init arg) →
    (needsWidth (encode i) = true → s.widthAgrees = true) → exec i { s with inited := true, conforming := false } = .next t →
    ∃ (u : State), exec i { s with inited := false } = .next u ∧ u = { t with inited := false, conforming := s.conforming, dev := u.dev }

/-- R206, D16: TRANSMIT ignores bit 6 and RECEIVE ignores bits 5 and 4: which exit is taken depends on the bits named alone, here that
a status byte with bits 5 and 4 both set is a success. -/
def Obligations.BothFlagsCountAsSuccess : Prop :=
  ∀ (s : State) (arg : Byte), s.Ready → s.conforming = false → s.payloadSize.toNat ≤ 32 → s.delayAt 3 < 100000 →
    (s.byteAt (6 + s.payloadSize.toNat)).getLsbD 5 = true → (s.byteAt (6 + s.payloadSize.toNat)).getLsbD 4 = true →
    ∃ (t : State), exec (.transmit arg) s = .next t ∧ t.result = true ∧
      ∀ stC rC stE, ¬ ∃ (pre : List Event), t.trace = pre ++ txn 0x27 stC [s.cfg.clrMr] [rC] ++ txn 0xE1 stE [] []
end

