-- ==== Sys2Proof/Laws/Config.lean ====
section
/-! SUPPORT. What `configOk` says of a record, once (R9, R10, R150). -/

namespace Sys2Proof.Machine

/-- The values and relations of a configuration that the meanings use (R9, R10, R150). -/
theorem configOk_spec (c : Config) (h : configOk c = true) :
    c.payloadMin = 1 ∧ c.payloadMax = 32 ∧ c.payloadDefault = 32 ∧ c.channelMax = 125 ∧ c.addrLen = 5 ∧
    c.tSettleTxUs = 1000 ∧ c.tPwrupUs = 5000 ∧ c.tCePulseUs = 15 ∧ c.tTimeoutUs = 100000 ∧
    c.bitDataReady = 6 ∧ c.bitDataSent = 5 ∧ c.bitMaxRt = 4 ∧ 0 < c.tSettleRxUs ∧ 0 < c.tPollUs ∧
    c.rxmodeBit ≠ c.powerBit ∧ (∃ e ∈ c.initTable, e.1 = 0x00 ∧ e.2.getLsbD c.rxmodeBit = false) ∧
    (∀ e ∈ c.initTable, e.1 ≠ 0x07 ∧ e.1 ≠ 0x11 ∧ reservedAddr e.1 = false) ∧ (c.initTable.map Prod.fst).Nodup := by
  simp only [configOk, fixedOk, initTableOk, Bool.and_eq_true, beq_iff_eq, decide_eq_true_eq, List.any_eq_true, List.all_eq_true,
    Bool.not_eq_true', beq_eq_false_iff_ne] at h
  obtain ⟨⟨⟨⟨h9, hr⟩, hp⟩, hb⟩, ⟨⟨⟨⟨⟨⟨e, he, h0, hx⟩, _⟩, _⟩, _⟩, _⟩, hf⟩, hg⟩ := h
  obtain ⟨⟨⟨⟨⟨⟨⟨⟨⟨⟨⟨⟨⟨⟨⟨⟨⟨⟨⟨⟨a1, a2⟩, a3⟩, a4⟩, a5⟩, _⟩, _⟩, a6⟩, a7⟩, a8⟩, _⟩, _⟩, a9⟩, _⟩, _⟩, b1⟩, b2⟩, b3⟩, _⟩, _⟩, _⟩ := h9
  exact ⟨a1, a2, a3, a4, a5, a6, a7, a8, a9, b1, b2, b3, hr, hp, hb, ⟨e, he, h0, hx⟩,
    fun e he => ⟨(hf e he).1.1, (hf e he).1.2, (hf e he).2⟩, hg⟩

/-- The status bits of a configuration: 6, 5 and 4 (R33). -/
theorem statusBits_of_configOk (c : Config) (st : Byte) (h : configOk c = true) :
    dataReadyBit c st = st.getLsbD 6 ∧ dataSentBit c st = st.getLsbD 5 ∧ maxRtBit c st = st.getLsbD 4 := by
  obtain ⟨_, _, _, _, _, _, _, _, _, h6, h5, h4, _⟩ := configOk_spec c h
  simp [dataReadyBit, dataSentBit, maxRtBit, h6, h5, h4]

end Sys2Proof.Machine
end

