-- ==== Sys2Proof/Laws/State.lean ====
section
/-! SUPPORT. The field lemmas of the primitive updates: what each writes, and that it leaves every other field. -/

namespace Sys2Proof.Machine

/-! ## emit -/

@[simp] theorem emit_payloadSize (e : Event) (s : State) : (emit e s).payloadSize = s.payloadSize := rfl
@[simp] theorem emit_statusL (e : Event) (s : State) : (emit e s).statusL = s.statusL := rfl
@[simp] theorem emit_result (e : Event) (s : State) : (emit e s).result = s.result := rfl
@[simp] theorem emit_rbyte (e : Event) (s : State) : (emit e s).rbyte = s.rbyte := rfl
@[simp] theorem emit_rxlen (e : Event) (s : State) : (emit e s).rxlen = s.rxlen := rfl
@[simp] theorem emit_rxbuf (e : Event) (s : State) : (emit e s).rxbuf = s.rxbuf := rfl
@[simp] theorem emit_ce (e : Event) (s : State) : (emit e s).ce = s.ce := rfl
@[simp] theorem emit_csn (e : Event) (s : State) : (emit e s).csn = s.csn := rfl
@[simp] theorem emit_busy (e : Event) (s : State) : (emit e s).busy = s.busy := rfl
@[simp] theorem emit_inited (e : Event) (s : State) : (emit e s).inited = s.inited := rfl
@[simp] theorem emit_pwrS (e : Event) (s : State) : (emit e s).pwrS = s.pwrS := rfl
@[simp] theorem emit_rxS (e : Event) (s : State) : (emit e s).rxS = s.rxS := rfl
@[simp] theorem emit_seq (e : Event) (s : State) : (emit e s).seq = s.seq := rfl
@[simp] theorem emit_idx (e : Event) (s : State) : (emit e s).idx = s.idx := rfl
@[simp] theorem emit_t0 (e : Event) (s : State) : (emit e s).t0 = s.t0 := rfl
@[simp] theorem emit_hdata (e : Event) (s : State) : (emit e s).hdata = s.hdata := rfl
@[simp] theorem emit_callLen (e : Event) (s : State) : (emit e s).callLen = s.callLen := rfl
@[simp] theorem emit_dataIn (e : Event) (s : State) : (emit e s).dataIn = s.dataIn := rfl
@[simp] theorem emit_host (e : Event) (s : State) : (emit e s).host = s.host := rfl
@[simp] theorem emit_cfg (e : Event) (s : State) : (emit e s).cfg = s.cfg := rfl
@[simp] theorem emit_dev (e : Event) (s : State) : (emit e s).dev = s.dev := rfl
@[simp] theorem emit_conforming (e : Event) (s : State) : (emit e s).conforming = s.conforming := rfl
@[simp] theorem emit_answers (e : Event) (s : State) : (emit e s).answers = s.answers := rfl
@[simp] theorem emit_drawn (e : Event) (s : State) : (emit e s).drawn = s.drawn := rfl
@[simp] theorem emit_now (e : Event) (s : State) : (emit e s).now = s.now := rfl
@[simp] theorem emit_delays (e : Event) (s : State) : (emit e s).delays = s.delays := rfl
@[simp] theorem emit_ticks (e : Event) (s : State) : (emit e s).ticks = s.ticks := rfl
@[simp] theorem emit_trace (e : Event) (s : State) : (emit e s).trace = s.trace ++ [e] := rfl
@[simp] theorem emit_modes (e : Event) (s : State) : (emit e s).modes = s.modes := rfl

/-! ## noteMode -/

@[simp] theorem noteMode_payloadSize (s : State) : (noteMode s).payloadSize = s.payloadSize := rfl
@[simp] theorem noteMode_statusL (s : State) : (noteMode s).statusL = s.statusL := rfl
@[simp] theorem noteMode_result (s : State) : (noteMode s).result = s.result := rfl
@[simp] theorem noteMode_rbyte (s : State) : (noteMode s).rbyte = s.rbyte := rfl
@[simp] theorem noteMode_rxlen (s : State) : (noteMode s).rxlen = s.rxlen := rfl
@[simp] theorem noteMode_rxbuf (s : State) : (noteMode s).rxbuf = s.rxbuf := rfl
@[simp] theorem noteMode_ce (s : State) : (noteMode s).ce = s.ce := rfl
@[simp] theorem noteMode_csn (s : State) : (noteMode s).csn = s.csn := rfl
@[simp] theorem noteMode_busy (s : State) : (noteMode s).busy = s.busy := rfl
@[simp] theorem noteMode_inited (s : State) : (noteMode s).inited = s.inited := rfl
@[simp] theorem noteMode_pwrS (s : State) : (noteMode s).pwrS = s.pwrS := rfl
@[simp] theorem noteMode_rxS (s : State) : (noteMode s).rxS = s.rxS := rfl
@[simp] theorem noteMode_seq (s : State) : (noteMode s).seq = s.seq := rfl
@[simp] theorem noteMode_idx (s : State) : (noteMode s).idx = s.idx := rfl
@[simp] theorem noteMode_t0 (s : State) : (noteMode s).t0 = s.t0 := rfl
@[simp] theorem noteMode_hdata (s : State) : (noteMode s).hdata = s.hdata := rfl
@[simp] theorem noteMode_callLen (s : State) : (noteMode s).callLen = s.callLen := rfl
@[simp] theorem noteMode_dataIn (s : State) : (noteMode s).dataIn = s.dataIn := rfl
@[simp] theorem noteMode_host (s : State) : (noteMode s).host = s.host := rfl
@[simp] theorem noteMode_cfg (s : State) : (noteMode s).cfg = s.cfg := rfl
@[simp] theorem noteMode_dev (s : State) : (noteMode s).dev = s.dev := rfl
@[simp] theorem noteMode_conforming (s : State) : (noteMode s).conforming = s.conforming := rfl
@[simp] theorem noteMode_answers (s : State) : (noteMode s).answers = s.answers := rfl
@[simp] theorem noteMode_drawn (s : State) : (noteMode s).drawn = s.drawn := rfl
@[simp] theorem noteMode_now (s : State) : (noteMode s).now = s.now := rfl
@[simp] theorem noteMode_delays (s : State) : (noteMode s).delays = s.delays := rfl
@[simp] theorem noteMode_ticks (s : State) : (noteMode s).ticks = s.ticks := rfl
@[simp] theorem noteMode_trace (s : State) : (noteMode s).trace = s.trace := rfl
@[simp] theorem noteMode_modes (s : State) : (noteMode s).modes = s.modes ++ [(s.trace.length, s.mode)] := rfl

/-! ## setCE -/

@[simp] theorem setCE_payloadSize (b : Bool) (s : State) : (setCE b s).payloadSize = s.payloadSize := rfl
@[simp] theorem setCE_statusL (b : Bool) (s : State) : (setCE b s).statusL = s.statusL := rfl
@[simp] theorem setCE_result (b : Bool) (s : State) : (setCE b s).result = s.result := rfl
@[simp] theorem setCE_rbyte (b : Bool) (s : State) : (setCE b s).rbyte = s.rbyte := rfl
@[simp] theorem setCE_rxlen (b : Bool) (s : State) : (setCE b s).rxlen = s.rxlen := rfl
@[simp] theorem setCE_rxbuf (b : Bool) (s : State) : (setCE b s).rxbuf = s.rxbuf := rfl
@[simp] theorem setCE_ce (b : Bool) (s : State) : (setCE b s).ce = b := rfl
@[simp] theorem setCE_csn (b : Bool) (s : State) : (setCE b s).csn = s.csn := rfl
@[simp] theorem setCE_busy (b : Bool) (s : State) : (setCE b s).busy = s.busy := rfl
@[simp] theorem setCE_inited (b : Bool) (s : State) : (setCE b s).inited = s.inited := rfl
@[simp] theorem setCE_pwrS (b : Bool) (s : State) : (setCE b s).pwrS = s.pwrS := rfl
@[simp] theorem setCE_rxS (b : Bool) (s : State) : (setCE b s).rxS = s.rxS := rfl
@[simp] theorem setCE_seq (b : Bool) (s : State) : (setCE b s).seq = s.seq := rfl
@[simp] theorem setCE_idx (b : Bool) (s : State) : (setCE b s).idx = s.idx := rfl
@[simp] theorem setCE_t0 (b : Bool) (s : State) : (setCE b s).t0 = s.t0 := rfl
@[simp] theorem setCE_hdata (b : Bool) (s : State) : (setCE b s).hdata = s.hdata := rfl
@[simp] theorem setCE_callLen (b : Bool) (s : State) : (setCE b s).callLen = s.callLen := rfl
@[simp] theorem setCE_dataIn (b : Bool) (s : State) : (setCE b s).dataIn = s.dataIn := rfl
@[simp] theorem setCE_host (b : Bool) (s : State) : (setCE b s).host = s.host := rfl
@[simp] theorem setCE_cfg (b : Bool) (s : State) : (setCE b s).cfg = s.cfg := rfl
@[simp] theorem setCE_dev (b : Bool) (s : State) : (setCE b s).dev = s.dev := rfl
@[simp] theorem setCE_conforming (b : Bool) (s : State) : (setCE b s).conforming = s.conforming := rfl
@[simp] theorem setCE_answers (b : Bool) (s : State) : (setCE b s).answers = s.answers := rfl
@[simp] theorem setCE_drawn (b : Bool) (s : State) : (setCE b s).drawn = s.drawn := rfl
@[simp] theorem setCE_now (b : Bool) (s : State) : (setCE b s).now = s.now := rfl
@[simp] theorem setCE_delays (b : Bool) (s : State) : (setCE b s).delays = s.delays := rfl
@[simp] theorem setCE_ticks (b : Bool) (s : State) : (setCE b s).ticks = s.ticks := rfl
@[simp] theorem setCE_trace (b : Bool) (s : State) : (setCE b s).trace = s.trace ++ [if b then .ce1 else .ce0] := rfl

/-! ## setCSN -/

@[simp] theorem setCSN_payloadSize (b : Bool) (s : State) : (setCSN b s).payloadSize = s.payloadSize := rfl
@[simp] theorem setCSN_statusL (b : Bool) (s : State) : (setCSN b s).statusL = s.statusL := rfl
@[simp] theorem setCSN_result (b : Bool) (s : State) : (setCSN b s).result = s.result := rfl
@[simp] theorem setCSN_rbyte (b : Bool) (s : State) : (setCSN b s).rbyte = s.rbyte := rfl
@[simp] theorem setCSN_rxlen (b : Bool) (s : State) : (setCSN b s).rxlen = s.rxlen := rfl
@[simp] theorem setCSN_rxbuf (b : Bool) (s : State) : (setCSN b s).rxbuf = s.rxbuf := rfl
@[simp] theorem setCSN_ce (b : Bool) (s : State) : (setCSN b s).ce = s.ce := rfl
@[simp] theorem setCSN_csn (b : Bool) (s : State) : (setCSN b s).csn = b := rfl
@[simp] theorem setCSN_busy (b : Bool) (s : State) : (setCSN b s).busy = s.busy := rfl
@[simp] theorem setCSN_inited (b : Bool) (s : State) : (setCSN b s).inited = s.inited := rfl
@[simp] theorem setCSN_pwrS (b : Bool) (s : State) : (setCSN b s).pwrS = s.pwrS := rfl
@[simp] theorem setCSN_rxS (b : Bool) (s : State) : (setCSN b s).rxS = s.rxS := rfl
@[simp] theorem setCSN_seq (b : Bool) (s : State) : (setCSN b s).seq = s.seq := rfl
@[simp] theorem setCSN_idx (b : Bool) (s : State) : (setCSN b s).idx = s.idx := rfl
@[simp] theorem setCSN_t0 (b : Bool) (s : State) : (setCSN b s).t0 = s.t0 := rfl
@[simp] theorem setCSN_hdata (b : Bool) (s : State) : (setCSN b s).hdata = s.hdata := rfl
@[simp] theorem setCSN_callLen (b : Bool) (s : State) : (setCSN b s).callLen = s.callLen := rfl
@[simp] theorem setCSN_dataIn (b : Bool) (s : State) : (setCSN b s).dataIn = s.dataIn := rfl
@[simp] theorem setCSN_host (b : Bool) (s : State) : (setCSN b s).host = s.host := rfl
@[simp] theorem setCSN_cfg (b : Bool) (s : State) : (setCSN b s).cfg = s.cfg := rfl
@[simp] theorem setCSN_dev (b : Bool) (s : State) : (setCSN b s).dev = s.dev := rfl
@[simp] theorem setCSN_conforming (b : Bool) (s : State) : (setCSN b s).conforming = s.conforming := rfl
@[simp] theorem setCSN_answers (b : Bool) (s : State) : (setCSN b s).answers = s.answers := rfl
@[simp] theorem setCSN_drawn (b : Bool) (s : State) : (setCSN b s).drawn = s.drawn := rfl
@[simp] theorem setCSN_now (b : Bool) (s : State) : (setCSN b s).now = s.now := rfl
@[simp] theorem setCSN_delays (b : Bool) (s : State) : (setCSN b s).delays = s.delays := rfl
@[simp] theorem setCSN_ticks (b : Bool) (s : State) : (setCSN b s).ticks = s.ticks := rfl
@[simp] theorem setCSN_trace (b : Bool) (s : State) : (setCSN b s).trace = s.trace ++ [if b then .desel else .sel] := rfl
@[simp] theorem setCSN_modes (b : Bool) (s : State) : (setCSN b s).modes = s.modes := rfl

/-! ## shadow -/

@[simp] theorem shadow_payloadSize (v : Byte) (s : State) : (shadow v s).payloadSize = s.payloadSize := rfl
@[simp] theorem shadow_statusL (v : Byte) (s : State) : (shadow v s).statusL = s.statusL := rfl
@[simp] theorem shadow_result (v : Byte) (s : State) : (shadow v s).result = s.result := rfl
@[simp] theorem shadow_rbyte (v : Byte) (s : State) : (shadow v s).rbyte = s.rbyte := rfl
@[simp] theorem shadow_rxlen (v : Byte) (s : State) : (shadow v s).rxlen = s.rxlen := rfl
@[simp] theorem shadow_rxbuf (v : Byte) (s : State) : (shadow v s).rxbuf = s.rxbuf := rfl
@[simp] theorem shadow_ce (v : Byte) (s : State) : (shadow v s).ce = s.ce := rfl
@[simp] theorem shadow_csn (v : Byte) (s : State) : (shadow v s).csn = s.csn := rfl
@[simp] theorem shadow_busy (v : Byte) (s : State) : (shadow v s).busy = s.busy := rfl
@[simp] theorem shadow_inited (v : Byte) (s : State) : (shadow v s).inited = s.inited := rfl
@[simp] theorem shadow_pwrS (v : Byte) (s : State) : (shadow v s).pwrS = v.getLsbD s.cfg.powerBit := rfl
@[simp] theorem shadow_rxS (v : Byte) (s : State) : (shadow v s).rxS = v.getLsbD s.cfg.rxmodeBit := rfl
@[simp] theorem shadow_seq (v : Byte) (s : State) : (shadow v s).seq = s.seq := rfl
@[simp] theorem shadow_idx (v : Byte) (s : State) : (shadow v s).idx = s.idx := rfl
@[simp] theorem shadow_t0 (v : Byte) (s : State) : (shadow v s).t0 = s.t0 := rfl
@[simp] theorem shadow_hdata (v : Byte) (s : State) : (shadow v s).hdata = s.hdata := rfl
@[simp] theorem shadow_callLen (v : Byte) (s : State) : (shadow v s).callLen = s.callLen := rfl
@[simp] theorem shadow_dataIn (v : Byte) (s : State) : (shadow v s).dataIn = s.dataIn := rfl
@[simp] theorem shadow_host (v : Byte) (s : State) : (shadow v s).host = s.host := rfl
@[simp] theorem shadow_cfg (v : Byte) (s : State) : (shadow v s).cfg = s.cfg := rfl
@[simp] theorem shadow_dev (v : Byte) (s : State) : (shadow v s).dev = s.dev := rfl
@[simp] theorem shadow_conforming (v : Byte) (s : State) : (shadow v s).conforming = s.conforming := rfl
@[simp] theorem shadow_answers (v : Byte) (s : State) : (shadow v s).answers = s.answers := rfl
@[simp] theorem shadow_drawn (v : Byte) (s : State) : (shadow v s).drawn = s.drawn := rfl
@[simp] theorem shadow_now (v : Byte) (s : State) : (shadow v s).now = s.now := rfl
@[simp] theorem shadow_delays (v : Byte) (s : State) : (shadow v s).delays = s.delays := rfl
@[simp] theorem shadow_ticks (v : Byte) (s : State) : (shadow v s).ticks = s.ticks := rfl
@[simp] theorem shadow_trace (v : Byte) (s : State) : (shadow v s).trace = s.trace := rfl

/-! ## wait -/

@[simp] theorem wait_payloadSize (n : Nat) (s : State) : (wait n s).payloadSize = s.payloadSize := rfl
@[simp] theorem wait_statusL (n : Nat) (s : State) : (wait n s).statusL = s.statusL := rfl
@[simp] theorem wait_result (n : Nat) (s : State) : (wait n s).result = s.result := rfl
@[simp] theorem wait_rbyte (n : Nat) (s : State) : (wait n s).rbyte = s.rbyte := rfl
@[simp] theorem wait_rxlen (n : Nat) (s : State) : (wait n s).rxlen = s.rxlen := rfl
@[simp] theorem wait_rxbuf (n : Nat) (s : State) : (wait n s).rxbuf = s.rxbuf := rfl
@[simp] theorem wait_ce (n : Nat) (s : State) : (wait n s).ce = s.ce := rfl
@[simp] theorem wait_csn (n : Nat) (s : State) : (wait n s).csn = s.csn := rfl
@[simp] theorem wait_busy (n : Nat) (s : State) : (wait n s).busy = s.busy := rfl
@[simp] theorem wait_inited (n : Nat) (s : State) : (wait n s).inited = s.inited := rfl
@[simp] theorem wait_pwrS (n : Nat) (s : State) : (wait n s).pwrS = s.pwrS := rfl
@[simp] theorem wait_rxS (n : Nat) (s : State) : (wait n s).rxS = s.rxS := rfl
@[simp] theorem wait_seq (n : Nat) (s : State) : (wait n s).seq = s.seq := rfl
@[simp] theorem wait_idx (n : Nat) (s : State) : (wait n s).idx = s.idx := rfl
@[simp] theorem wait_t0 (n : Nat) (s : State) : (wait n s).t0 = s.t0 := rfl
@[simp] theorem wait_hdata (n : Nat) (s : State) : (wait n s).hdata = s.hdata := rfl
@[simp] theorem wait_callLen (n : Nat) (s : State) : (wait n s).callLen = s.callLen := rfl
@[simp] theorem wait_dataIn (n : Nat) (s : State) : (wait n s).dataIn = s.dataIn := rfl
@[simp] theorem wait_host (n : Nat) (s : State) : (wait n s).host = s.host := rfl
@[simp] theorem wait_cfg (n : Nat) (s : State) : (wait n s).cfg = s.cfg := rfl
@[simp] theorem wait_dev (n : Nat) (s : State) : (wait n s).dev = s.dev := rfl
@[simp] theorem wait_conforming (n : Nat) (s : State) : (wait n s).conforming = s.conforming := rfl
@[simp] theorem wait_answers (n : Nat) (s : State) : (wait n s).answers = s.answers := rfl
@[simp] theorem wait_drawn (n : Nat) (s : State) : (wait n s).drawn = s.drawn := rfl
@[simp] theorem wait_now (n : Nat) (s : State) : (wait n s).now = s.now + n + s.delay := rfl
@[simp] theorem wait_delays (n : Nat) (s : State) : (wait n s).delays = s.delays := rfl
@[simp] theorem wait_ticks (n : Nat) (s : State) : (wait n s).ticks = s.ticks + 1 := rfl
@[simp] theorem wait_trace (n : Nat) (s : State) : (wait n s).trace = s.trace ++ [.w n] := rfl
@[simp] theorem wait_modes (n : Nat) (s : State) : (wait n s).modes = s.modes := rfl

/-! ## readNow -/

@[simp] theorem readNow_payloadSize (s : State) : (readNow s).payloadSize = s.payloadSize := rfl
@[simp] theorem readNow_statusL (s : State) : (readNow s).statusL = s.statusL := rfl
@[simp] theorem readNow_result (s : State) : (readNow s).result = s.result := rfl
@[simp] theorem readNow_rbyte (s : State) : (readNow s).rbyte = s.rbyte := rfl
@[simp] theorem readNow_rxlen (s : State) : (readNow s).rxlen = s.rxlen := rfl
@[simp] theorem readNow_rxbuf (s : State) : (readNow s).rxbuf = s.rxbuf := rfl
@[simp] theorem readNow_ce (s : State) : (readNow s).ce = s.ce := rfl
@[simp] theorem readNow_csn (s : State) : (readNow s).csn = s.csn := rfl
@[simp] theorem readNow_busy (s : State) : (readNow s).busy = s.busy := rfl
@[simp] theorem readNow_inited (s : State) : (readNow s).inited = s.inited := rfl
@[simp] theorem readNow_pwrS (s : State) : (readNow s).pwrS = s.pwrS := rfl
@[simp] theorem readNow_rxS (s : State) : (readNow s).rxS = s.rxS := rfl
@[simp] theorem readNow_seq (s : State) : (readNow s).seq = s.seq := rfl
@[simp] theorem readNow_idx (s : State) : (readNow s).idx = s.idx := rfl
@[simp] theorem readNow_t0 (s : State) : (readNow s).t0 = s.t0 := rfl
@[simp] theorem readNow_hdata (s : State) : (readNow s).hdata = s.hdata := rfl
@[simp] theorem readNow_callLen (s : State) : (readNow s).callLen = s.callLen := rfl
@[simp] theorem readNow_dataIn (s : State) : (readNow s).dataIn = s.dataIn := rfl
@[simp] theorem readNow_host (s : State) : (readNow s).host = s.host := rfl
@[simp] theorem readNow_cfg (s : State) : (readNow s).cfg = s.cfg := rfl
@[simp] theorem readNow_dev (s : State) : (readNow s).dev = s.dev := rfl
@[simp] theorem readNow_conforming (s : State) : (readNow s).conforming = s.conforming := rfl
@[simp] theorem readNow_answers (s : State) : (readNow s).answers = s.answers := rfl
@[simp] theorem readNow_drawn (s : State) : (readNow s).drawn = s.drawn := rfl
@[simp] theorem readNow_now (s : State) : (readNow s).now = s.now + s.delay := rfl
@[simp] theorem readNow_delays (s : State) : (readNow s).delays = s.delays := rfl
@[simp] theorem readNow_ticks (s : State) : (readNow s).ticks = s.ticks + 1 := rfl
@[simp] theorem readNow_trace (s : State) : (readNow s).trace = s.trace ++ [.t] := rfl
@[simp] theorem readNow_modes (s : State) : (readNow s).modes = s.modes := rfl

/-! ## holdCSN -/

@[simp] theorem holdCSN_payloadSize (s : State) : (holdCSN s).payloadSize = s.payloadSize := rfl
@[simp] theorem holdCSN_statusL (s : State) : (holdCSN s).statusL = s.statusL := rfl
@[simp] theorem holdCSN_result (s : State) : (holdCSN s).result = s.result := rfl
@[simp] theorem holdCSN_rbyte (s : State) : (holdCSN s).rbyte = s.rbyte := rfl
@[simp] theorem holdCSN_rxlen (s : State) : (holdCSN s).rxlen = s.rxlen := rfl
@[simp] theorem holdCSN_rxbuf (s : State) : (holdCSN s).rxbuf = s.rxbuf := rfl
@[simp] theorem holdCSN_ce (s : State) : (holdCSN s).ce = s.ce := rfl
@[simp] theorem holdCSN_csn (s : State) : (holdCSN s).csn = s.csn := rfl
@[simp] theorem holdCSN_busy (s : State) : (holdCSN s).busy = s.busy := rfl
@[simp] theorem holdCSN_inited (s : State) : (holdCSN s).inited = s.inited := rfl
@[simp] theorem holdCSN_pwrS (s : State) : (holdCSN s).pwrS = s.pwrS := rfl
@[simp] theorem holdCSN_rxS (s : State) : (holdCSN s).rxS = s.rxS := rfl
@[simp] theorem holdCSN_seq (s : State) : (holdCSN s).seq = s.seq := rfl
@[simp] theorem holdCSN_idx (s : State) : (holdCSN s).idx = s.idx := rfl
@[simp] theorem holdCSN_t0 (s : State) : (holdCSN s).t0 = s.t0 := rfl
@[simp] theorem holdCSN_hdata (s : State) : (holdCSN s).hdata = s.hdata := rfl
@[simp] theorem holdCSN_callLen (s : State) : (holdCSN s).callLen = s.callLen := rfl
@[simp] theorem holdCSN_dataIn (s : State) : (holdCSN s).dataIn = s.dataIn := rfl
@[simp] theorem holdCSN_host (s : State) : (holdCSN s).host = s.host := rfl
@[simp] theorem holdCSN_cfg (s : State) : (holdCSN s).cfg = s.cfg := rfl
@[simp] theorem holdCSN_dev (s : State) : (holdCSN s).dev = s.dev := rfl
@[simp] theorem holdCSN_conforming (s : State) : (holdCSN s).conforming = s.conforming := rfl
@[simp] theorem holdCSN_answers (s : State) : (holdCSN s).answers = s.answers := rfl
@[simp] theorem holdCSN_drawn (s : State) : (holdCSN s).drawn = s.drawn := rfl
@[simp] theorem holdCSN_now (s : State) : (holdCSN s).now = s.now + s.cfg.tCsnUs := rfl
@[simp] theorem holdCSN_delays (s : State) : (holdCSN s).delays = s.delays := rfl
@[simp] theorem holdCSN_ticks (s : State) : (holdCSN s).ticks = s.ticks := rfl
@[simp] theorem holdCSN_trace (s : State) : (holdCSN s).trace = s.trace := rfl
@[simp] theorem holdCSN_modes (s : State) : (holdCSN s).modes = s.modes := rfl

/-! ## loseDevice -/

@[simp] theorem loseDevice_payloadSize (s : State) : (loseDevice s).payloadSize = s.payloadSize := rfl
@[simp] theorem loseDevice_statusL (s : State) : (loseDevice s).statusL = s.statusL := rfl
@[simp] theorem loseDevice_result (s : State) : (loseDevice s).result = s.result := rfl
@[simp] theorem loseDevice_rbyte (s : State) : (loseDevice s).rbyte = s.rbyte := rfl
@[simp] theorem loseDevice_rxlen (s : State) : (loseDevice s).rxlen = s.rxlen := rfl
@[simp] theorem loseDevice_rxbuf (s : State) : (loseDevice s).rxbuf = s.rxbuf := rfl
@[simp] theorem loseDevice_ce (s : State) : (loseDevice s).ce = s.ce := rfl
@[simp] theorem loseDevice_csn (s : State) : (loseDevice s).csn = s.csn := rfl
@[simp] theorem loseDevice_busy (s : State) : (loseDevice s).busy = s.busy := rfl
@[simp] theorem loseDevice_inited (s : State) : (loseDevice s).inited = s.inited := rfl
@[simp] theorem loseDevice_pwrS (s : State) : (loseDevice s).pwrS = s.pwrS := rfl
@[simp] theorem loseDevice_rxS (s : State) : (loseDevice s).rxS = s.rxS := rfl
@[simp] theorem loseDevice_seq (s : State) : (loseDevice s).seq = s.seq := rfl
@[simp] theorem loseDevice_idx (s : State) : (loseDevice s).idx = s.idx := rfl
@[simp] theorem loseDevice_t0 (s : State) : (loseDevice s).t0 = s.t0 := rfl
@[simp] theorem loseDevice_hdata (s : State) : (loseDevice s).hdata = s.hdata := rfl
@[simp] theorem loseDevice_callLen (s : State) : (loseDevice s).callLen = s.callLen := rfl
@[simp] theorem loseDevice_dataIn (s : State) : (loseDevice s).dataIn = s.dataIn := rfl
@[simp] theorem loseDevice_host (s : State) : (loseDevice s).host = s.host := rfl
@[simp] theorem loseDevice_cfg (s : State) : (loseDevice s).cfg = s.cfg := rfl
@[simp] theorem loseDevice_dev (s : State) : (loseDevice s).dev = freeDevice s.drawn := rfl
@[simp] theorem loseDevice_conforming (s : State) : (loseDevice s).conforming = s.conforming := rfl
@[simp] theorem loseDevice_answers (s : State) : (loseDevice s).answers = s.answers := rfl
@[simp] theorem loseDevice_drawn (s : State) : (loseDevice s).drawn = s.drawn := rfl
@[simp] theorem loseDevice_now (s : State) : (loseDevice s).now = s.now := rfl
@[simp] theorem loseDevice_delays (s : State) : (loseDevice s).delays = s.delays := rfl
@[simp] theorem loseDevice_ticks (s : State) : (loseDevice s).ticks = s.ticks := rfl
@[simp] theorem loseDevice_trace (s : State) : (loseDevice s).trace = s.trace := rfl
@[simp] theorem loseDevice_modes (s : State) : (loseDevice s).modes = s.modes := rfl

/-! ## takeAnswer -/

@[simp] theorem takeAnswer_payloadSize (s : State) : (takeAnswer s).payloadSize = s.payloadSize := rfl
@[simp] theorem takeAnswer_statusL (s : State) : (takeAnswer s).statusL = s.statusL := rfl
@[simp] theorem takeAnswer_result (s : State) : (takeAnswer s).result = s.result := rfl
@[simp] theorem takeAnswer_rbyte (s : State) : (takeAnswer s).rbyte = s.rbyte := rfl
@[simp] theorem takeAnswer_rxlen (s : State) : (takeAnswer s).rxlen = s.rxlen := rfl
@[simp] theorem takeAnswer_rxbuf (s : State) : (takeAnswer s).rxbuf = s.rxbuf := rfl
@[simp] theorem takeAnswer_ce (s : State) : (takeAnswer s).ce = s.ce := rfl
@[simp] theorem takeAnswer_csn (s : State) : (takeAnswer s).csn = s.csn := rfl
@[simp] theorem takeAnswer_busy (s : State) : (takeAnswer s).busy = s.busy := rfl
@[simp] theorem takeAnswer_inited (s : State) : (takeAnswer s).inited = s.inited := rfl
@[simp] theorem takeAnswer_pwrS (s : State) : (takeAnswer s).pwrS = s.pwrS := rfl
@[simp] theorem takeAnswer_rxS (s : State) : (takeAnswer s).rxS = s.rxS := rfl
@[simp] theorem takeAnswer_seq (s : State) : (takeAnswer s).seq = s.seq := rfl
@[simp] theorem takeAnswer_idx (s : State) : (takeAnswer s).idx = s.idx := rfl
@[simp] theorem takeAnswer_t0 (s : State) : (takeAnswer s).t0 = s.t0 := rfl
@[simp] theorem takeAnswer_hdata (s : State) : (takeAnswer s).hdata = s.hdata := rfl
@[simp] theorem takeAnswer_callLen (s : State) : (takeAnswer s).callLen = s.callLen := rfl
@[simp] theorem takeAnswer_dataIn (s : State) : (takeAnswer s).dataIn = s.dataIn := rfl
@[simp] theorem takeAnswer_host (s : State) : (takeAnswer s).host = s.host := rfl
@[simp] theorem takeAnswer_cfg (s : State) : (takeAnswer s).cfg = s.cfg := rfl
@[simp] theorem takeAnswer_dev (s : State) : (takeAnswer s).dev = radioActs s.answer.radio s.dev := rfl
@[simp] theorem takeAnswer_conforming (s : State) : (takeAnswer s).conforming = s.conforming := rfl
@[simp] theorem takeAnswer_answers (s : State) : (takeAnswer s).answers = s.answers := rfl
@[simp] theorem takeAnswer_drawn (s : State) : (takeAnswer s).drawn = s.drawn + 1 := rfl
@[simp] theorem takeAnswer_now (s : State) : (takeAnswer s).now = s.now := rfl
@[simp] theorem takeAnswer_delays (s : State) : (takeAnswer s).delays = s.delays := rfl
@[simp] theorem takeAnswer_ticks (s : State) : (takeAnswer s).ticks = s.ticks := rfl
@[simp] theorem takeAnswer_trace (s : State) : (takeAnswer s).trace = s.trace := rfl
@[simp] theorem takeAnswer_modes (s : State) : (takeAnswer s).modes = s.modes := rfl

/-! ## xferCommand -/

@[simp] theorem xferCommand_payloadSize (c : Byte) (s : State) : (xferCommand c s).payloadSize = s.payloadSize := rfl
@[simp] theorem xferCommand_result (c : Byte) (s : State) : (xferCommand c s).result = s.result := rfl
@[simp] theorem xferCommand_rbyte (c : Byte) (s : State) : (xferCommand c s).rbyte = s.rbyte := rfl
@[simp] theorem xferCommand_rxlen (c : Byte) (s : State) : (xferCommand c s).rxlen = s.rxlen := rfl
@[simp] theorem xferCommand_rxbuf (c : Byte) (s : State) : (xferCommand c s).rxbuf = s.rxbuf := rfl
@[simp] theorem xferCommand_ce (c : Byte) (s : State) : (xferCommand c s).ce = s.ce := rfl
@[simp] theorem xferCommand_csn (c : Byte) (s : State) : (xferCommand c s).csn = s.csn := rfl
@[simp] theorem xferCommand_busy (c : Byte) (s : State) : (xferCommand c s).busy = s.busy := rfl
@[simp] theorem xferCommand_inited (c : Byte) (s : State) : (xferCommand c s).inited = s.inited := rfl
@[simp] theorem xferCommand_pwrS (c : Byte) (s : State) : (xferCommand c s).pwrS = s.pwrS := rfl
@[simp] theorem xferCommand_rxS (c : Byte) (s : State) : (xferCommand c s).rxS = s.rxS := rfl
@[simp] theorem xferCommand_seq (c : Byte) (s : State) : (xferCommand c s).seq = s.seq := rfl
@[simp] theorem xferCommand_idx (c : Byte) (s : State) : (xferCommand c s).idx = 0 := rfl
@[simp] theorem xferCommand_t0 (c : Byte) (s : State) : (xferCommand c s).t0 = s.t0 := rfl
@[simp] theorem xferCommand_hdata (c : Byte) (s : State) : (xferCommand c s).hdata = s.hdata := rfl
@[simp] theorem xferCommand_callLen (c : Byte) (s : State) : (xferCommand c s).callLen = s.callLen := rfl
@[simp] theorem xferCommand_dataIn (c : Byte) (s : State) : (xferCommand c s).dataIn = [] := rfl
@[simp] theorem xferCommand_host (c : Byte) (s : State) : (xferCommand c s).host = s.host := rfl
@[simp] theorem xferCommand_cfg (c : Byte) (s : State) : (xferCommand c s).cfg = s.cfg := rfl
@[simp] theorem xferCommand_dev (c : Byte) (s : State) : (xferCommand c s).dev = radioActs s.answer.radio s.dev := rfl
@[simp] theorem xferCommand_conforming (c : Byte) (s : State) : (xferCommand c s).conforming = s.conforming := rfl
@[simp] theorem xferCommand_answers (c : Byte) (s : State) : (xferCommand c s).answers = s.answers := rfl
@[simp] theorem xferCommand_drawn (c : Byte) (s : State) : (xferCommand c s).drawn = s.drawn + 1 := rfl
@[simp] theorem xferCommand_now (c : Byte) (s : State) : (xferCommand c s).now = s.now := rfl
@[simp] theorem xferCommand_delays (c : Byte) (s : State) : (xferCommand c s).delays = s.delays := rfl
@[simp] theorem xferCommand_ticks (c : Byte) (s : State) : (xferCommand c s).ticks = s.ticks := rfl
@[simp] theorem xferCommand_modes (c : Byte) (s : State) : (xferCommand c s).modes = s.modes := rfl

/-! ## xferData -/

@[simp] theorem xferData_payloadSize (c t : Byte) (s : State) : (xferData c t s).payloadSize = s.payloadSize := rfl
@[simp] theorem xferData_statusL (c t : Byte) (s : State) : (xferData c t s).statusL = s.statusL := rfl
@[simp] theorem xferData_result (c t : Byte) (s : State) : (xferData c t s).result = s.result := rfl
@[simp] theorem xferData_rbyte (c t : Byte) (s : State) : (xferData c t s).rbyte = s.rbyte := rfl
@[simp] theorem xferData_rxlen (c t : Byte) (s : State) : (xferData c t s).rxlen = s.rxlen := rfl
@[simp] theorem xferData_rxbuf (c t : Byte) (s : State) : (xferData c t s).rxbuf = s.rxbuf := rfl
@[simp] theorem xferData_ce (c t : Byte) (s : State) : (xferData c t s).ce = s.ce := rfl
@[simp] theorem xferData_csn (c t : Byte) (s : State) : (xferData c t s).csn = s.csn := rfl
@[simp] theorem xferData_busy (c t : Byte) (s : State) : (xferData c t s).busy = s.busy := rfl
@[simp] theorem xferData_inited (c t : Byte) (s : State) : (xferData c t s).inited = s.inited := rfl
@[simp] theorem xferData_pwrS (c t : Byte) (s : State) : (xferData c t s).pwrS = s.pwrS := rfl
@[simp] theorem xferData_rxS (c t : Byte) (s : State) : (xferData c t s).rxS = s.rxS := rfl
@[simp] theorem xferData_seq (c t : Byte) (s : State) : (xferData c t s).seq = s.seq := rfl
@[simp] theorem xferData_idx (c t : Byte) (s : State) : (xferData c t s).idx = s.idx + 1 := rfl
@[simp] theorem xferData_t0 (c t : Byte) (s : State) : (xferData c t s).t0 = s.t0 := rfl
@[simp] theorem xferData_hdata (c t : Byte) (s : State) : (xferData c t s).hdata = s.hdata := rfl
@[simp] theorem xferData_callLen (c t : Byte) (s : State) : (xferData c t s).callLen = s.callLen := rfl
@[simp] theorem xferData_host (c t : Byte) (s : State) : (xferData c t s).host = s.host := rfl
@[simp] theorem xferData_cfg (c t : Byte) (s : State) : (xferData c t s).cfg = s.cfg := rfl
@[simp] theorem xferData_dev (c t : Byte) (s : State) : (xferData c t s).dev = radioActs s.answer.radio s.dev := rfl
@[simp] theorem xferData_conforming (c t : Byte) (s : State) : (xferData c t s).conforming = s.conforming := rfl
@[simp] theorem xferData_answers (c t : Byte) (s : State) : (xferData c t s).answers = s.answers := rfl
@[simp] theorem xferData_drawn (c t : Byte) (s : State) : (xferData c t s).drawn = s.drawn + 1 := rfl
@[simp] theorem xferData_now (c t : Byte) (s : State) : (xferData c t s).now = s.now := rfl
@[simp] theorem xferData_delays (c t : Byte) (s : State) : (xferData c t s).delays = s.delays := rfl
@[simp] theorem xferData_ticks (c t : Byte) (s : State) : (xferData c t s).ticks = s.ticks := rfl
@[simp] theorem xferData_modes (c t : Byte) (s : State) : (xferData c t s).modes = s.modes := rfl

/-! ## keepDeviceIf -/

@[simp] theorem keepDeviceIf_payloadSize (known : Bool) (s : State) : (keepDeviceIf known s).payloadSize = s.payloadSize := rfl
@[simp] theorem keepDeviceIf_statusL (known : Bool) (s : State) : (keepDeviceIf known s).statusL = s.statusL := rfl
@[simp] theorem keepDeviceIf_result (known : Bool) (s : State) : (keepDeviceIf known s).result = s.result := rfl
@[simp] theorem keepDeviceIf_rbyte (known : Bool) (s : State) : (keepDeviceIf known s).rbyte = s.rbyte := rfl
@[simp] theorem keepDeviceIf_rxlen (known : Bool) (s : State) : (keepDeviceIf known s).rxlen = s.rxlen := rfl
@[simp] theorem keepDeviceIf_rxbuf (known : Bool) (s : State) : (keepDeviceIf known s).rxbuf = s.rxbuf := rfl
@[simp] theorem keepDeviceIf_ce (known : Bool) (s : State) : (keepDeviceIf known s).ce = s.ce := rfl
@[simp] theorem keepDeviceIf_csn (known : Bool) (s : State) : (keepDeviceIf known s).csn = s.csn := rfl
@[simp] theorem keepDeviceIf_busy (known : Bool) (s : State) : (keepDeviceIf known s).busy = s.busy := rfl
@[simp] theorem keepDeviceIf_inited (known : Bool) (s : State) : (keepDeviceIf known s).inited = s.inited := rfl
@[simp] theorem keepDeviceIf_pwrS (known : Bool) (s : State) : (keepDeviceIf known s).pwrS = s.pwrS := rfl
@[simp] theorem keepDeviceIf_rxS (known : Bool) (s : State) : (keepDeviceIf known s).rxS = s.rxS := rfl
@[simp] theorem keepDeviceIf_seq (known : Bool) (s : State) : (keepDeviceIf known s).seq = s.seq := rfl
@[simp] theorem keepDeviceIf_idx (known : Bool) (s : State) : (keepDeviceIf known s).idx = s.idx := rfl
@[simp] theorem keepDeviceIf_t0 (known : Bool) (s : State) : (keepDeviceIf known s).t0 = s.t0 := rfl
@[simp] theorem keepDeviceIf_hdata (known : Bool) (s : State) : (keepDeviceIf known s).hdata = s.hdata := rfl
@[simp] theorem keepDeviceIf_callLen (known : Bool) (s : State) : (keepDeviceIf known s).callLen = s.callLen := rfl
@[simp] theorem keepDeviceIf_dataIn (known : Bool) (s : State) : (keepDeviceIf known s).dataIn = s.dataIn := rfl
@[simp] theorem keepDeviceIf_host (known : Bool) (s : State) : (keepDeviceIf known s).host = s.host := rfl
@[simp] theorem keepDeviceIf_cfg (known : Bool) (s : State) : (keepDeviceIf known s).cfg = s.cfg := rfl
@[simp] theorem keepDeviceIf_dev (known : Bool) (s : State) : (keepDeviceIf known s).dev = if known then s.dev else freeDevice s.drawn := rfl
@[simp] theorem keepDeviceIf_conforming (known : Bool) (s : State) : (keepDeviceIf known s).conforming = s.conforming := rfl
@[simp] theorem keepDeviceIf_answers (known : Bool) (s : State) : (keepDeviceIf known s).answers = s.answers := rfl
@[simp] theorem keepDeviceIf_drawn (known : Bool) (s : State) : (keepDeviceIf known s).drawn = s.drawn := rfl
@[simp] theorem keepDeviceIf_now (known : Bool) (s : State) : (keepDeviceIf known s).now = s.now := rfl
@[simp] theorem keepDeviceIf_delays (known : Bool) (s : State) : (keepDeviceIf known s).delays = s.delays := rfl
@[simp] theorem keepDeviceIf_ticks (known : Bool) (s : State) : (keepDeviceIf known s).ticks = s.ticks := rfl
@[simp] theorem keepDeviceIf_trace (known : Bool) (s : State) : (keepDeviceIf known s).trace = s.trace := rfl
@[simp] theorem keepDeviceIf_modes (known : Bool) (s : State) : (keepDeviceIf known s).modes = s.modes := rfl

/-! ## poweredDown -/

@[simp] theorem poweredDown_payloadSize (s : State) : (poweredDown s).payloadSize = s.payloadSize := rfl
@[simp] theorem poweredDown_statusL (s : State) : (poweredDown s).statusL = s.statusL := rfl
@[simp] theorem poweredDown_result (s : State) : (poweredDown s).result = s.result := rfl
@[simp] theorem poweredDown_rbyte (s : State) : (poweredDown s).rbyte = s.rbyte := rfl
@[simp] theorem poweredDown_rxlen (s : State) : (poweredDown s).rxlen = s.rxlen := rfl
@[simp] theorem poweredDown_rxbuf (s : State) : (poweredDown s).rxbuf = s.rxbuf := rfl
@[simp] theorem poweredDown_ce (s : State) : (poweredDown s).ce = s.ce := rfl
@[simp] theorem poweredDown_csn (s : State) : (poweredDown s).csn = s.csn := rfl
@[simp] theorem poweredDown_busy (s : State) : (poweredDown s).busy = s.busy := rfl
@[simp] theorem poweredDown_inited (s : State) : (poweredDown s).inited = s.inited := rfl
@[simp] theorem poweredDown_pwrS (s : State) : (poweredDown s).pwrS = s.pwrS := rfl
@[simp] theorem poweredDown_rxS (s : State) : (poweredDown s).rxS = s.rxS := rfl
@[simp] theorem poweredDown_seq (s : State) : (poweredDown s).seq = s.seq := rfl
@[simp] theorem poweredDown_idx (s : State) : (poweredDown s).idx = s.idx := rfl
@[simp] theorem poweredDown_t0 (s : State) : (poweredDown s).t0 = s.t0 := rfl
@[simp] theorem poweredDown_hdata (s : State) : (poweredDown s).hdata = s.hdata := rfl
@[simp] theorem poweredDown_callLen (s : State) : (poweredDown s).callLen = s.callLen := rfl
@[simp] theorem poweredDown_dataIn (s : State) : (poweredDown s).dataIn = s.dataIn := rfl
@[simp] theorem poweredDown_host (s : State) : (poweredDown s).host = s.host := rfl
@[simp] theorem poweredDown_cfg (s : State) : (poweredDown s).cfg = s.cfg := rfl
@[simp] theorem poweredDown_dev (s : State) : (poweredDown s).dev = { (if s.conforming then s.dev else freeDevice s.drawn) with
    txFifo := (freeDevice s.drawn).txFifo, rxFifo := (freeDevice s.drawn).rxFifo } := rfl
@[simp] theorem poweredDown_conforming (s : State) : (poweredDown s).conforming = s.conforming := rfl
@[simp] theorem poweredDown_answers (s : State) : (poweredDown s).answers = s.answers := rfl
@[simp] theorem poweredDown_drawn (s : State) : (poweredDown s).drawn = s.drawn := rfl
@[simp] theorem poweredDown_now (s : State) : (poweredDown s).now = s.now := rfl
@[simp] theorem poweredDown_delays (s : State) : (poweredDown s).delays = s.delays := rfl
@[simp] theorem poweredDown_ticks (s : State) : (poweredDown s).ticks = s.ticks := rfl
@[simp] theorem poweredDown_trace (s : State) : (poweredDown s).trace = s.trace := rfl
@[simp] theorem poweredDown_modes (s : State) : (poweredDown s).modes = s.modes := rfl

/-! ## accept -/

@[simp] theorem accept_payloadSize (op : HostOp) (s : State) : (accept op s).payloadSize = s.payloadSize := rfl
@[simp] theorem accept_statusL (op : HostOp) (s : State) : (accept op s).statusL = s.statusL := rfl
@[simp] theorem accept_result (op : HostOp) (s : State) : (accept op s).result = s.result := rfl
@[simp] theorem accept_rbyte (op : HostOp) (s : State) : (accept op s).rbyte = s.rbyte := rfl
@[simp] theorem accept_rxlen (op : HostOp) (s : State) : (accept op s).rxlen = s.rxlen := rfl
@[simp] theorem accept_rxbuf (op : HostOp) (s : State) : (accept op s).rxbuf = s.rxbuf := rfl
@[simp] theorem accept_ce (op : HostOp) (s : State) : (accept op s).ce = s.ce := rfl
@[simp] theorem accept_csn (op : HostOp) (s : State) : (accept op s).csn = s.csn := rfl
@[simp] theorem accept_busy (op : HostOp) (s : State) : (accept op s).busy = true := rfl
@[simp] theorem accept_inited (op : HostOp) (s : State) : (accept op s).inited = s.inited := rfl
@[simp] theorem accept_pwrS (op : HostOp) (s : State) : (accept op s).pwrS = s.pwrS := rfl
@[simp] theorem accept_rxS (op : HostOp) (s : State) : (accept op s).rxS = s.rxS := rfl
@[simp] theorem accept_seq (op : HostOp) (s : State) : (accept op s).seq = .running op := rfl
@[simp] theorem accept_idx (op : HostOp) (s : State) : (accept op s).idx = s.idx := rfl
@[simp] theorem accept_t0 (op : HostOp) (s : State) : (accept op s).t0 = s.t0 := rfl
@[simp] theorem accept_hdata (op : HostOp) (s : State) : (accept op s).hdata = s.hdata := rfl
@[simp] theorem accept_callLen (op : HostOp) (s : State) : (accept op s).callLen = s.callLen := rfl
@[simp] theorem accept_dataIn (op : HostOp) (s : State) : (accept op s).dataIn = s.dataIn := rfl
@[simp] theorem accept_host (op : HostOp) (s : State) : (accept op s).host = s.host := rfl
@[simp] theorem accept_cfg (op : HostOp) (s : State) : (accept op s).cfg = s.cfg := rfl
@[simp] theorem accept_dev (op : HostOp) (s : State) : (accept op s).dev = s.dev := rfl
@[simp] theorem accept_conforming (op : HostOp) (s : State) : (accept op s).conforming = s.conforming := rfl
@[simp] theorem accept_answers (op : HostOp) (s : State) : (accept op s).answers = s.answers := rfl
@[simp] theorem accept_drawn (op : HostOp) (s : State) : (accept op s).drawn = s.drawn := rfl
@[simp] theorem accept_now (op : HostOp) (s : State) : (accept op s).now = s.now := rfl
@[simp] theorem accept_delays (op : HostOp) (s : State) : (accept op s).delays = s.delays := rfl
@[simp] theorem accept_ticks (op : HostOp) (s : State) : (accept op s).ticks = s.ticks := rfl
@[simp] theorem accept_trace (op : HostOp) (s : State) : (accept op s).trace = s.trace := rfl
@[simp] theorem accept_modes (op : HostOp) (s : State) : (accept op s).modes = s.modes := rfl

/-! ## finish -/

@[simp] theorem finish_payloadSize (b : Bool) (s : State) : (finish b s).payloadSize = s.payloadSize := rfl
@[simp] theorem finish_statusL (b : Bool) (s : State) : (finish b s).statusL = s.statusL := rfl
@[simp] theorem finish_result (b : Bool) (s : State) : (finish b s).result = b := rfl
@[simp] theorem finish_rbyte (b : Bool) (s : State) : (finish b s).rbyte = s.rbyte := rfl
@[simp] theorem finish_rxlen (b : Bool) (s : State) : (finish b s).rxlen = s.rxlen := rfl
@[simp] theorem finish_rxbuf (b : Bool) (s : State) : (finish b s).rxbuf = s.rxbuf := rfl
@[simp] theorem finish_ce (b : Bool) (s : State) : (finish b s).ce = s.ce := rfl
@[simp] theorem finish_csn (b : Bool) (s : State) : (finish b s).csn = s.csn := rfl
@[simp] theorem finish_busy (b : Bool) (s : State) : (finish b s).busy = false := rfl
@[simp] theorem finish_inited (b : Bool) (s : State) : (finish b s).inited = (s.inited || decide (s.seq = .running .init)) := rfl
@[simp] theorem finish_pwrS (b : Bool) (s : State) : (finish b s).pwrS = s.pwrS := rfl
@[simp] theorem finish_rxS (b : Bool) (s : State) : (finish b s).rxS = s.rxS := rfl
@[simp] theorem finish_seq (b : Bool) (s : State) : (finish b s).seq = .idle := rfl
@[simp] theorem finish_idx (b : Bool) (s : State) : (finish b s).idx = s.idx := rfl
@[simp] theorem finish_t0 (b : Bool) (s : State) : (finish b s).t0 = s.t0 := rfl
@[simp] theorem finish_hdata (b : Bool) (s : State) : (finish b s).hdata = s.hdata := rfl
@[simp] theorem finish_callLen (b : Bool) (s : State) : (finish b s).callLen = s.callLen := rfl
@[simp] theorem finish_dataIn (b : Bool) (s : State) : (finish b s).dataIn = s.dataIn := rfl
@[simp] theorem finish_host (b : Bool) (s : State) : (finish b s).host = s.host := rfl
@[simp] theorem finish_cfg (b : Bool) (s : State) : (finish b s).cfg = s.cfg := rfl
@[simp] theorem finish_dev (b : Bool) (s : State) : (finish b s).dev = s.dev := rfl
@[simp] theorem finish_conforming (b : Bool) (s : State) : (finish b s).conforming = s.conforming := rfl
@[simp] theorem finish_answers (b : Bool) (s : State) : (finish b s).answers = s.answers := rfl
@[simp] theorem finish_drawn (b : Bool) (s : State) : (finish b s).drawn = s.drawn := rfl
@[simp] theorem finish_now (b : Bool) (s : State) : (finish b s).now = s.now := rfl
@[simp] theorem finish_delays (b : Bool) (s : State) : (finish b s).delays = s.delays := rfl
@[simp] theorem finish_ticks (b : Bool) (s : State) : (finish b s).ticks = s.ticks := rfl
@[simp] theorem finish_trace (b : Bool) (s : State) : (finish b s).trace = s.trace := rfl
@[simp] theorem finish_modes (b : Bool) (s : State) : (finish b s).modes = s.modes := rfl

/-! ## presented -/

@[simp] theorem presented_payloadSize (len : Fin 33) (data : Vector Byte 32) (s : State) : (presented len data s).payloadSize = s.payloadSize := rfl
@[simp] theorem presented_statusL (len : Fin 33) (data : Vector Byte 32) (s : State) : (presented len data s).statusL = s.statusL := rfl
@[simp] theorem presented_result (len : Fin 33) (data : Vector Byte 32) (s : State) : (presented len data s).result = s.result := rfl
@[simp] theorem presented_rbyte (len : Fin 33) (data : Vector Byte 32) (s : State) : (presented len data s).rbyte = s.rbyte := rfl
@[simp] theorem presented_rxlen (len : Fin 33) (data : Vector Byte 32) (s : State) : (presented len data s).rxlen = s.rxlen := rfl
@[simp] theorem presented_rxbuf (len : Fin 33) (data : Vector Byte 32) (s : State) : (presented len data s).rxbuf = s.rxbuf := rfl
@[simp] theorem presented_ce (len : Fin 33) (data : Vector Byte 32) (s : State) : (presented len data s).ce = s.ce := rfl
@[simp] theorem presented_csn (len : Fin 33) (data : Vector Byte 32) (s : State) : (presented len data s).csn = s.csn := rfl
@[simp] theorem presented_busy (len : Fin 33) (data : Vector Byte 32) (s : State) : (presented len data s).busy = s.busy := rfl
@[simp] theorem presented_inited (len : Fin 33) (data : Vector Byte 32) (s : State) : (presented len data s).inited = s.inited := rfl
@[simp] theorem presented_pwrS (len : Fin 33) (data : Vector Byte 32) (s : State) : (presented len data s).pwrS = s.pwrS := rfl
@[simp] theorem presented_rxS (len : Fin 33) (data : Vector Byte 32) (s : State) : (presented len data s).rxS = s.rxS := rfl
@[simp] theorem presented_seq (len : Fin 33) (data : Vector Byte 32) (s : State) : (presented len data s).seq = s.seq := rfl
@[simp] theorem presented_idx (len : Fin 33) (data : Vector Byte 32) (s : State) : (presented len data s).idx = s.idx := rfl
@[simp] theorem presented_t0 (len : Fin 33) (data : Vector Byte 32) (s : State) : (presented len data s).t0 = s.t0 := rfl
@[simp] theorem presented_hdata (len : Fin 33) (data : Vector Byte 32) (s : State) : (presented len data s).hdata = data := rfl
@[simp] theorem presented_callLen (len : Fin 33) (data : Vector Byte 32) (s : State) : (presented len data s).callLen = len := rfl
@[simp] theorem presented_dataIn (len : Fin 33) (data : Vector Byte 32) (s : State) : (presented len data s).dataIn = s.dataIn := rfl
@[simp] theorem presented_host (len : Fin 33) (data : Vector Byte 32) (s : State) : (presented len data s).host = s.host := rfl
@[simp] theorem presented_cfg (len : Fin 33) (data : Vector Byte 32) (s : State) : (presented len data s).cfg = s.cfg := rfl
@[simp] theorem presented_dev (len : Fin 33) (data : Vector Byte 32) (s : State) : (presented len data s).dev = s.dev := rfl
@[simp] theorem presented_conforming (len : Fin 33) (data : Vector Byte 32) (s : State) : (presented len data s).conforming = s.conforming := rfl
@[simp] theorem presented_answers (len : Fin 33) (data : Vector Byte 32) (s : State) : (presented len data s).answers = s.answers := rfl
@[simp] theorem presented_drawn (len : Fin 33) (data : Vector Byte 32) (s : State) : (presented len data s).drawn = s.drawn := rfl
@[simp] theorem presented_now (len : Fin 33) (data : Vector Byte 32) (s : State) : (presented len data s).now = s.now := rfl
@[simp] theorem presented_delays (len : Fin 33) (data : Vector Byte 32) (s : State) : (presented len data s).delays = s.delays := rfl
@[simp] theorem presented_ticks (len : Fin 33) (data : Vector Byte 32) (s : State) : (presented len data s).ticks = s.ticks := rfl
@[simp] theorem presented_trace (len : Fin 33) (data : Vector Byte 32) (s : State) : (presented len data s).trace = s.trace := rfl
@[simp] theorem presented_modes (len : Fin 33) (data : Vector Byte 32) (s : State) : (presented len data s).modes = s.modes := rfl

end Sys2Proof.Machine
end

