-- ==== Sys2Proof/Laws/Frames.lean ====
section
/-! SUPPORT. One frame lemma per shared operation: the fields it leaves as they were. Each conjunct is a simp rule. -/

namespace Sys2Proof.Machine

/-- The data phase leaves all but the exchange's own registers. -/
@[simp] theorem xferAll_frame (c : Byte) (ts : List Byte) (s : State) :
    (xferAll c ts s).payloadSize = s.payloadSize ∧ (xferAll c ts s).statusL = s.statusL ∧ (xferAll c ts s).result = s.result ∧
    (xferAll c ts s).rbyte = s.rbyte ∧ (xferAll c ts s).rxlen = s.rxlen ∧ (xferAll c ts s).rxbuf = s.rxbuf ∧
    (xferAll c ts s).ce = s.ce ∧ (xferAll c ts s).csn = s.csn ∧ (xferAll c ts s).busy = s.busy ∧
    (xferAll c ts s).inited = s.inited ∧ (xferAll c ts s).pwrS = s.pwrS ∧ (xferAll c ts s).rxS = s.rxS ∧
    (xferAll c ts s).seq = s.seq ∧ (xferAll c ts s).t0 = s.t0 ∧ (xferAll c ts s).hdata = s.hdata ∧
    (xferAll c ts s).callLen = s.callLen ∧ (xferAll c ts s).host = s.host ∧ (xferAll c ts s).cfg = s.cfg ∧
    (xferAll c ts s).conforming = s.conforming ∧ (xferAll c ts s).answers = s.answers ∧ (xferAll c ts s).now = s.now ∧
    (xferAll c ts s).delays = s.delays ∧ (xferAll c ts s).ticks = s.ticks ∧ (xferAll c ts s).modes = s.modes := by
  induction ts generalizing s with
  | nil => simp [xferAll]
  | cons t ts ih => simp [xferAll, ih]

/-- A register write reaches the device alone. -/
@[simp] theorem registerWritten_frame (a : BitVec 5) (out : List Byte) (s : State) :
    (registerWritten a out s).payloadSize = s.payloadSize ∧ (registerWritten a out s).statusL = s.statusL ∧
    (registerWritten a out s).result = s.result ∧ (registerWritten a out s).rbyte = s.rbyte ∧
    (registerWritten a out s).rxlen = s.rxlen ∧ (registerWritten a out s).rxbuf = s.rxbuf ∧
    (registerWritten a out s).ce = s.ce ∧ (registerWritten a out s).csn = s.csn ∧ (registerWritten a out s).busy = s.busy ∧
    (registerWritten a out s).inited = s.inited ∧ (registerWritten a out s).pwrS = s.pwrS ∧
    (registerWritten a out s).rxS = s.rxS ∧ (registerWritten a out s).seq = s.seq ∧ (registerWritten a out s).idx = s.idx ∧
    (registerWritten a out s).t0 = s.t0 ∧ (registerWritten a out s).hdata = s.hdata ∧
    (registerWritten a out s).callLen = s.callLen ∧ (registerWritten a out s).dataIn = s.dataIn ∧
    (registerWritten a out s).host = s.host ∧ (registerWritten a out s).cfg = s.cfg ∧
    (registerWritten a out s).conforming = s.conforming ∧ (registerWritten a out s).answers = s.answers ∧
    (registerWritten a out s).drawn = s.drawn ∧ (registerWritten a out s).now = s.now ∧
    (registerWritten a out s).delays = s.delays ∧ (registerWritten a out s).ticks = s.ticks ∧
    (registerWritten a out s).trace = s.trace ∧ (registerWritten a out s).modes = s.modes := by
  unfold registerWritten; split
  · simp
  · split
    · simp
    · split <;> simp

/-- What a transaction does in the device changes nothing of the engine. -/
@[simp] theorem deviceActs_frame (c : Byte) (out : List Byte) (s : State) :
    (deviceActs c out s).payloadSize = s.payloadSize ∧ (deviceActs c out s).statusL = s.statusL ∧
    (deviceActs c out s).result = s.result ∧ (deviceActs c out s).rbyte = s.rbyte ∧ (deviceActs c out s).rxlen = s.rxlen ∧
    (deviceActs c out s).rxbuf = s.rxbuf ∧ (deviceActs c out s).ce = s.ce ∧ (deviceActs c out s).csn = s.csn ∧
    (deviceActs c out s).busy = s.busy ∧ (deviceActs c out s).inited = s.inited ∧ (deviceActs c out s).pwrS = s.pwrS ∧
    (deviceActs c out s).rxS = s.rxS ∧ (deviceActs c out s).seq = s.seq ∧ (deviceActs c out s).idx = s.idx ∧
    (deviceActs c out s).t0 = s.t0 ∧ (deviceActs c out s).hdata = s.hdata ∧ (deviceActs c out s).callLen = s.callLen ∧
    (deviceActs c out s).dataIn = s.dataIn ∧ (deviceActs c out s).host = s.host ∧ (deviceActs c out s).cfg = s.cfg ∧
    (deviceActs c out s).conforming = s.conforming ∧ (deviceActs c out s).answers = s.answers ∧
    (deviceActs c out s).drawn = s.drawn ∧ (deviceActs c out s).now = s.now ∧ (deviceActs c out s).delays = s.delays ∧
    (deviceActs c out s).ticks = s.ticks ∧ (deviceActs c out s).trace = s.trace ∧ (deviceActs c out s).modes = s.modes := by
  unfold deviceActs; split
  case h_3 => split <;> simp
  all_goals simp

/-- A transaction (R100) writes `CSN`, `STATUS_L`, `idx`, its returned bytes, and the environment. -/
@[simp] theorem cmd_frame (c : Byte) (out : List Byte) (s : State) :
    (cmd c out s).payloadSize = s.payloadSize ∧ (cmd c out s).result = s.result ∧ (cmd c out s).rbyte = s.rbyte ∧
    (cmd c out s).rxlen = s.rxlen ∧ (cmd c out s).rxbuf = s.rxbuf ∧ (cmd c out s).ce = s.ce ∧ (cmd c out s).busy = s.busy ∧
    (cmd c out s).inited = s.inited ∧ (cmd c out s).pwrS = s.pwrS ∧ (cmd c out s).rxS = s.rxS ∧ (cmd c out s).seq = s.seq ∧
    (cmd c out s).t0 = s.t0 ∧ (cmd c out s).hdata = s.hdata ∧ (cmd c out s).callLen = s.callLen ∧ (cmd c out s).host = s.host ∧
    (cmd c out s).cfg = s.cfg ∧ (cmd c out s).conforming = s.conforming ∧ (cmd c out s).answers = s.answers ∧
    (cmd c out s).delays = s.delays ∧ (cmd c out s).ticks = s.ticks ∧ (cmd c out s).modes = s.modes := by
  simp [cmd]

/-- A read (R104) writes what a transaction writes. -/
@[simp] theorem regReadBlock_frame (a : Byte) (len : Nat) (s : State) :
    (regReadBlock a len s).payloadSize = s.payloadSize ∧ (regReadBlock a len s).result = s.result ∧
    (regReadBlock a len s).rbyte = s.rbyte ∧ (regReadBlock a len s).rxlen = s.rxlen ∧ (regReadBlock a len s).rxbuf = s.rxbuf ∧
    (regReadBlock a len s).ce = s.ce ∧ (regReadBlock a len s).busy = s.busy ∧ (regReadBlock a len s).inited = s.inited ∧
    (regReadBlock a len s).pwrS = s.pwrS ∧ (regReadBlock a len s).rxS = s.rxS ∧ (regReadBlock a len s).seq = s.seq ∧
    (regReadBlock a len s).t0 = s.t0 ∧ (regReadBlock a len s).hdata = s.hdata ∧ (regReadBlock a len s).callLen = s.callLen ∧
    (regReadBlock a len s).host = s.host ∧ (regReadBlock a len s).cfg = s.cfg ∧
    (regReadBlock a len s).conforming = s.conforming ∧ (regReadBlock a len s).answers = s.answers ∧
    (regReadBlock a len s).delays = s.delays ∧ (regReadBlock a len s).ticks = s.ticks ∧
    (regReadBlock a len s).modes = s.modes := by
  simp [regReadBlock]

/-- A one-byte read (R102) writes what a transaction writes. -/
@[simp] theorem regRead_frame (a : Byte) (s : State) :
    (regRead a s).payloadSize = s.payloadSize ∧ (regRead a s).result = s.result ∧ (regRead a s).rbyte = s.rbyte ∧
    (regRead a s).rxlen = s.rxlen ∧ (regRead a s).rxbuf = s.rxbuf ∧ (regRead a s).ce = s.ce ∧ (regRead a s).busy = s.busy ∧
    (regRead a s).inited = s.inited ∧ (regRead a s).pwrS = s.pwrS ∧ (regRead a s).rxS = s.rxS ∧ (regRead a s).seq = s.seq ∧
    (regRead a s).t0 = s.t0 ∧ (regRead a s).hdata = s.hdata ∧ (regRead a s).callLen = s.callLen ∧ (regRead a s).host = s.host ∧
    (regRead a s).cfg = s.cfg ∧ (regRead a s).conforming = s.conforming ∧ (regRead a s).answers = s.answers ∧
    (regRead a s).delays = s.delays ∧ (regRead a s).ticks = s.ticks ∧ (regRead a s).modes = s.modes := by
  simp [regRead]

/-- The shadows follow a write and nothing else does (R24). -/
@[simp] theorem shadowWrite_frame (a : Byte) (bs : List Byte) (s : State) :
    (shadowWrite a bs s).payloadSize = s.payloadSize ∧ (shadowWrite a bs s).statusL = s.statusL ∧
    (shadowWrite a bs s).result = s.result ∧ (shadowWrite a bs s).rbyte = s.rbyte ∧ (shadowWrite a bs s).rxlen = s.rxlen ∧
    (shadowWrite a bs s).rxbuf = s.rxbuf ∧ (shadowWrite a bs s).ce = s.ce ∧ (shadowWrite a bs s).csn = s.csn ∧
    (shadowWrite a bs s).busy = s.busy ∧ (shadowWrite a bs s).inited = s.inited ∧ (shadowWrite a bs s).seq = s.seq ∧
    (shadowWrite a bs s).idx = s.idx ∧ (shadowWrite a bs s).t0 = s.t0 ∧ (shadowWrite a bs s).hdata = s.hdata ∧
    (shadowWrite a bs s).callLen = s.callLen ∧ (shadowWrite a bs s).dataIn = s.dataIn ∧ (shadowWrite a bs s).host = s.host ∧
    (shadowWrite a bs s).cfg = s.cfg ∧ (shadowWrite a bs s).dev = s.dev ∧ (shadowWrite a bs s).conforming = s.conforming ∧
    (shadowWrite a bs s).answers = s.answers ∧ (shadowWrite a bs s).drawn = s.drawn ∧ (shadowWrite a bs s).now = s.now ∧
    (shadowWrite a bs s).delays = s.delays ∧ (shadowWrite a bs s).ticks = s.ticks ∧ (shadowWrite a bs s).trace = s.trace := by
  unfold shadowWrite; split
  · simp
  · split <;> simp

/-- A write (R105) writes what a transaction writes, and the shadows. -/
@[simp] theorem regWriteBlock_frame (a : Byte) (bs : List Byte) (s : State) :
    (regWriteBlock a bs s).payloadSize = s.payloadSize ∧ (regWriteBlock a bs s).result = s.result ∧
    (regWriteBlock a bs s).rbyte = s.rbyte ∧ (regWriteBlock a bs s).rxlen = s.rxlen ∧ (regWriteBlock a bs s).rxbuf = s.rxbuf ∧
    (regWriteBlock a bs s).ce = s.ce ∧ (regWriteBlock a bs s).busy = s.busy ∧ (regWriteBlock a bs s).inited = s.inited ∧
    (regWriteBlock a bs s).seq = s.seq ∧ (regWriteBlock a bs s).t0 = s.t0 ∧ (regWriteBlock a bs s).hdata = s.hdata ∧
    (regWriteBlock a bs s).callLen = s.callLen ∧ (regWriteBlock a bs s).host = s.host ∧ (regWriteBlock a bs s).cfg = s.cfg ∧
    (regWriteBlock a bs s).conforming = s.conforming ∧ (regWriteBlock a bs s).answers = s.answers ∧
    (regWriteBlock a bs s).delays = s.delays ∧ (regWriteBlock a bs s).ticks = s.ticks := by
  simp [regWriteBlock]

/-- A one-byte write (R103) writes what a block write writes. -/
@[simp] theorem regWrite_frame (a v : Byte) (s : State) :
    (regWrite a v s).payloadSize = s.payloadSize ∧ (regWrite a v s).result = s.result ∧ (regWrite a v s).rbyte = s.rbyte ∧
    (regWrite a v s).rxlen = s.rxlen ∧ (regWrite a v s).rxbuf = s.rxbuf ∧ (regWrite a v s).ce = s.ce ∧
    (regWrite a v s).busy = s.busy ∧ (regWrite a v s).inited = s.inited ∧ (regWrite a v s).seq = s.seq ∧
    (regWrite a v s).t0 = s.t0 ∧ (regWrite a v s).hdata = s.hdata ∧ (regWrite a v s).callLen = s.callLen ∧
    (regWrite a v s).host = s.host ∧ (regWrite a v s).cfg = s.cfg ∧ (regWrite a v s).conforming = s.conforming ∧
    (regWrite a v s).answers = s.answers ∧ (regWrite a v s).delays = s.delays ∧ (regWrite a v s).ticks = s.ticks := by
  simp [regWrite]

/-- A status query (R113) writes what a transaction writes. -/
@[simp] theorem statusQuery_frame (s : State) :
    (statusQuery s).payloadSize = s.payloadSize ∧ (statusQuery s).result = s.result ∧ (statusQuery s).rbyte = s.rbyte ∧
    (statusQuery s).rxlen = s.rxlen ∧ (statusQuery s).rxbuf = s.rxbuf ∧ (statusQuery s).ce = s.ce ∧
    (statusQuery s).busy = s.busy ∧ (statusQuery s).inited = s.inited ∧ (statusQuery s).pwrS = s.pwrS ∧
    (statusQuery s).rxS = s.rxS ∧ (statusQuery s).seq = s.seq ∧ (statusQuery s).t0 = s.t0 ∧ (statusQuery s).hdata = s.hdata ∧
    (statusQuery s).callLen = s.callLen ∧ (statusQuery s).host = s.host ∧ (statusQuery s).cfg = s.cfg ∧
    (statusQuery s).conforming = s.conforming ∧ (statusQuery s).answers = s.answers ∧ (statusQuery s).delays = s.delays ∧
    (statusQuery s).ticks = s.ticks ∧ (statusQuery s).modes = s.modes := by
  simp [statusQuery]

/-- FLUSH_TX (R110) writes what a transaction writes. -/
@[simp] theorem flushTxFifo_frame (s : State) :
    (flushTxFifo s).payloadSize = s.payloadSize ∧ (flushTxFifo s).result = s.result ∧ (flushTxFifo s).rbyte = s.rbyte ∧
    (flushTxFifo s).rxlen = s.rxlen ∧ (flushTxFifo s).rxbuf = s.rxbuf ∧ (flushTxFifo s).ce = s.ce ∧
    (flushTxFifo s).busy = s.busy ∧ (flushTxFifo s).inited = s.inited ∧ (flushTxFifo s).pwrS = s.pwrS ∧
    (flushTxFifo s).rxS = s.rxS ∧ (flushTxFifo s).seq = s.seq ∧ (flushTxFifo s).t0 = s.t0 ∧ (flushTxFifo s).hdata = s.hdata ∧
    (flushTxFifo s).callLen = s.callLen ∧ (flushTxFifo s).host = s.host ∧ (flushTxFifo s).cfg = s.cfg ∧
    (flushTxFifo s).conforming = s.conforming ∧ (flushTxFifo s).answers = s.answers ∧ (flushTxFifo s).delays = s.delays ∧
    (flushTxFifo s).ticks = s.ticks ∧ (flushTxFifo s).modes = s.modes := by
  simp [flushTxFifo]

/-- FLUSH_RX (R111) writes what a transaction writes. -/
@[simp] theorem flushRxFifo_frame (s : State) :
    (flushRxFifo s).payloadSize = s.payloadSize ∧ (flushRxFifo s).result = s.result ∧ (flushRxFifo s).rbyte = s.rbyte ∧
    (flushRxFifo s).rxlen = s.rxlen ∧ (flushRxFifo s).rxbuf = s.rxbuf ∧ (flushRxFifo s).ce = s.ce ∧
    (flushRxFifo s).busy = s.busy ∧ (flushRxFifo s).inited = s.inited ∧ (flushRxFifo s).pwrS = s.pwrS ∧
    (flushRxFifo s).rxS = s.rxS ∧ (flushRxFifo s).seq = s.seq ∧ (flushRxFifo s).t0 = s.t0 ∧ (flushRxFifo s).hdata = s.hdata ∧
    (flushRxFifo s).callLen = s.callLen ∧ (flushRxFifo s).host = s.host ∧ (flushRxFifo s).cfg = s.cfg ∧
    (flushRxFifo s).conforming = s.conforming ∧ (flushRxFifo s).answers = s.answers ∧ (flushRxFifo s).delays = s.delays ∧
    (flushRxFifo s).ticks = s.ticks ∧ (flushRxFifo s).modes = s.modes := by
  simp [flushRxFifo]

/-- Clearing flags (R114) writes what a transaction writes, the shadows not. -/
@[simp] theorem clearFlags_frame (m : Byte) (s : State) :
    (clearFlags m s).payloadSize = s.payloadSize ∧ (clearFlags m s).result = s.result ∧ (clearFlags m s).rbyte = s.rbyte ∧
    (clearFlags m s).rxlen = s.rxlen ∧ (clearFlags m s).rxbuf = s.rxbuf ∧ (clearFlags m s).ce = s.ce ∧
    (clearFlags m s).busy = s.busy ∧ (clearFlags m s).inited = s.inited ∧ (clearFlags m s).pwrS = s.pwrS ∧
    (clearFlags m s).rxS = s.rxS ∧ (clearFlags m s).seq = s.seq ∧ (clearFlags m s).t0 = s.t0 ∧
    (clearFlags m s).hdata = s.hdata ∧ (clearFlags m s).callLen = s.callLen ∧ (clearFlags m s).host = s.host ∧
    (clearFlags m s).cfg = s.cfg ∧ (clearFlags m s).conforming = s.conforming ∧ (clearFlags m s).answers = s.answers ∧
    (clearFlags m s).delays = s.delays ∧ (clearFlags m s).ticks = s.ticks ∧ (clearFlags m s).modes = s.modes := by
  simp [clearFlags, regWrite, regWriteBlock, shadowWrite]

/-- The configuration update (R141) writes what a register write writes. -/
@[simp] theorem cfgUpdate_frame (set clr : Byte) (s : State) :
    (cfgUpdate set clr s).payloadSize = s.payloadSize ∧ (cfgUpdate set clr s).result = s.result ∧
    (cfgUpdate set clr s).rbyte = s.rbyte ∧ (cfgUpdate set clr s).rxlen = s.rxlen ∧ (cfgUpdate set clr s).rxbuf = s.rxbuf ∧
    (cfgUpdate set clr s).ce = s.ce ∧ (cfgUpdate set clr s).busy = s.busy ∧ (cfgUpdate set clr s).inited = s.inited ∧
    (cfgUpdate set clr s).seq = s.seq ∧ (cfgUpdate set clr s).t0 = s.t0 ∧ (cfgUpdate set clr s).hdata = s.hdata ∧
    (cfgUpdate set clr s).callLen = s.callLen ∧ (cfgUpdate set clr s).host = s.host ∧ (cfgUpdate set clr s).cfg = s.cfg ∧
    (cfgUpdate set clr s).conforming = s.conforming ∧ (cfgUpdate set clr s).answers = s.answers ∧
    (cfgUpdate set clr s).delays = s.delays ∧ (cfgUpdate set clr s).ticks = s.ticks := by
  simp [cfgUpdate]

/-- The table writes of INIT (R149). -/
@[simp] theorem writeTable_frame (es : List (BitVec 5 × Byte)) (s : State) :
    (writeTable es s).payloadSize = s.payloadSize ∧ (writeTable es s).result = s.result ∧ (writeTable es s).rbyte = s.rbyte ∧
    (writeTable es s).rxlen = s.rxlen ∧ (writeTable es s).rxbuf = s.rxbuf ∧ (writeTable es s).ce = s.ce ∧
    (writeTable es s).busy = s.busy ∧ (writeTable es s).inited = s.inited ∧ (writeTable es s).seq = s.seq ∧
    (writeTable es s).t0 = s.t0 ∧ (writeTable es s).hdata = s.hdata ∧ (writeTable es s).callLen = s.callLen ∧
    (writeTable es s).host = s.host ∧ (writeTable es s).cfg = s.cfg ∧ (writeTable es s).conforming = s.conforming ∧
    (writeTable es s).answers = s.answers ∧ (writeTable es s).delays = s.delays ∧ (writeTable es s).ticks = s.ticks := by
  induction es generalizing s with
  | nil => simp [writeTable]
  | cons e es ih => simp [writeTable, ih]

/-- `TxModeBody` (R142). -/
@[simp] theorem txModeBody_frame (s : State) :
    (txModeBody s).payloadSize = s.payloadSize ∧ (txModeBody s).result = s.result ∧ (txModeBody s).rbyte = s.rbyte ∧
    (txModeBody s).rxlen = s.rxlen ∧ (txModeBody s).rxbuf = s.rxbuf ∧ (txModeBody s).busy = s.busy ∧
    (txModeBody s).inited = s.inited ∧ (txModeBody s).seq = s.seq ∧ (txModeBody s).t0 = s.t0 ∧ (txModeBody s).hdata = s.hdata ∧
    (txModeBody s).callLen = s.callLen ∧ (txModeBody s).host = s.host ∧ (txModeBody s).cfg = s.cfg ∧
    (txModeBody s).conforming = s.conforming ∧ (txModeBody s).answers = s.answers ∧ (txModeBody s).delays = s.delays := by
  simp [txModeBody]

/-- `RxModeBody` (R143). -/
@[simp] theorem rxModeBody_frame (s : State) :
    (rxModeBody s).payloadSize = s.payloadSize ∧ (rxModeBody s).result = s.result ∧ (rxModeBody s).rbyte = s.rbyte ∧
    (rxModeBody s).rxlen = s.rxlen ∧ (rxModeBody s).rxbuf = s.rxbuf ∧ (rxModeBody s).busy = s.busy ∧
    (rxModeBody s).inited = s.inited ∧ (rxModeBody s).seq = s.seq ∧ (rxModeBody s).t0 = s.t0 ∧ (rxModeBody s).hdata = s.hdata ∧
    (rxModeBody s).callLen = s.callLen ∧ (rxModeBody s).host = s.host ∧ (rxModeBody s).cfg = s.cfg ∧
    (rxModeBody s).conforming = s.conforming ∧ (rxModeBody s).answers = s.answers ∧ (rxModeBody s).delays = s.delays := by
  simp [rxModeBody]

/-- `PowerUpBody` (R144). -/
@[simp] theorem powerUpBody_frame (s : State) :
    (powerUpBody s).payloadSize = s.payloadSize ∧ (powerUpBody s).result = s.result ∧ (powerUpBody s).rbyte = s.rbyte ∧
    (powerUpBody s).rxlen = s.rxlen ∧ (powerUpBody s).rxbuf = s.rxbuf ∧ (powerUpBody s).ce = s.ce ∧
    (powerUpBody s).busy = s.busy ∧ (powerUpBody s).inited = s.inited ∧ (powerUpBody s).seq = s.seq ∧
    (powerUpBody s).t0 = s.t0 ∧ (powerUpBody s).hdata = s.hdata ∧ (powerUpBody s).callLen = s.callLen ∧
    (powerUpBody s).host = s.host ∧ (powerUpBody s).cfg = s.cfg ∧ (powerUpBody s).conforming = s.conforming ∧
    (powerUpBody s).answers = s.answers ∧ (powerUpBody s).delays = s.delays := by
  simp [powerUpBody]

/-- The body of POWER_DOWN (R145). -/
@[simp] theorem powerDownBody_frame (s : State) :
    (powerDownBody s).payloadSize = s.payloadSize ∧ (powerDownBody s).result = s.result ∧ (powerDownBody s).rbyte = s.rbyte ∧
    (powerDownBody s).rxlen = s.rxlen ∧ (powerDownBody s).rxbuf = s.rxbuf ∧ (powerDownBody s).ce = s.ce ∧
    (powerDownBody s).busy = s.busy ∧ (powerDownBody s).inited = s.inited ∧ (powerDownBody s).seq = s.seq ∧
    (powerDownBody s).t0 = s.t0 ∧ (powerDownBody s).hdata = s.hdata ∧ (powerDownBody s).callLen = s.callLen ∧
    (powerDownBody s).host = s.host ∧ (powerDownBody s).cfg = s.cfg ∧ (powerDownBody s).conforming = s.conforming ∧
    (powerDownBody s).answers = s.answers ∧ (powerDownBody s).delays = s.delays ∧ (powerDownBody s).ticks = s.ticks := by
  simp [powerDownBody]

/-- The body of INIT (R149). -/
@[simp] theorem initBody_frame (s : State) :
    (initBody s).payloadSize = s.payloadSize ∧ (initBody s).result = s.result ∧ (initBody s).rbyte = s.rbyte ∧
    (initBody s).rxlen = s.rxlen ∧ (initBody s).rxbuf = s.rxbuf ∧ (initBody s).busy = s.busy ∧ (initBody s).inited = s.inited ∧
    (initBody s).seq = s.seq ∧ (initBody s).t0 = s.t0 ∧ (initBody s).hdata = s.hdata ∧ (initBody s).callLen = s.callLen ∧
    (initBody s).host = s.host ∧ (initBody s).cfg = s.cfg ∧ (initBody s).conforming = s.conforming ∧
    (initBody s).answers = s.answers ∧ (initBody s).delays = s.delays := by
  simp [initBody]

/-- The chip-enable pulse (R163). -/
@[simp] theorem pulseCE_frame (s : State) :
    (pulseCE s).payloadSize = s.payloadSize ∧ (pulseCE s).statusL = s.statusL ∧ (pulseCE s).result = s.result ∧
    (pulseCE s).rbyte = s.rbyte ∧ (pulseCE s).rxlen = s.rxlen ∧ (pulseCE s).rxbuf = s.rxbuf ∧ (pulseCE s).csn = s.csn ∧
    (pulseCE s).busy = s.busy ∧ (pulseCE s).inited = s.inited ∧ (pulseCE s).pwrS = s.pwrS ∧ (pulseCE s).rxS = s.rxS ∧
    (pulseCE s).seq = s.seq ∧ (pulseCE s).idx = s.idx ∧ (pulseCE s).t0 = s.t0 ∧ (pulseCE s).hdata = s.hdata ∧
    (pulseCE s).callLen = s.callLen ∧ (pulseCE s).dataIn = s.dataIn ∧ (pulseCE s).host = s.host ∧ (pulseCE s).cfg = s.cfg ∧
    (pulseCE s).dev = s.dev ∧ (pulseCE s).conforming = s.conforming ∧ (pulseCE s).answers = s.answers ∧
    (pulseCE s).drawn = s.drawn ∧ (pulseCE s).delays = s.delays := by
  simp [pulseCE]

/-- Starting the timer (R164). -/
@[simp] theorem startTimer_frame (s : State) :
    (startTimer s).payloadSize = s.payloadSize ∧ (startTimer s).statusL = s.statusL ∧ (startTimer s).result = s.result ∧
    (startTimer s).rbyte = s.rbyte ∧ (startTimer s).rxlen = s.rxlen ∧ (startTimer s).rxbuf = s.rxbuf ∧
    (startTimer s).ce = s.ce ∧ (startTimer s).csn = s.csn ∧ (startTimer s).busy = s.busy ∧ (startTimer s).inited = s.inited ∧
    (startTimer s).pwrS = s.pwrS ∧ (startTimer s).rxS = s.rxS ∧ (startTimer s).seq = s.seq ∧ (startTimer s).idx = s.idx ∧
    (startTimer s).hdata = s.hdata ∧ (startTimer s).callLen = s.callLen ∧ (startTimer s).dataIn = s.dataIn ∧
    (startTimer s).host = s.host ∧ (startTimer s).cfg = s.cfg ∧ (startTimer s).dev = s.dev ∧
    (startTimer s).conforming = s.conforming ∧ (startTimer s).answers = s.answers ∧ (startTimer s).drawn = s.drawn ∧
    (startTimer s).delays = s.delays ∧ (startTimer s).modes = s.modes := by
  simp [startTimer]

/-- The success exit (R165). -/
@[simp] theorem successExit_frame (s : State) :
    (successExit s).payloadSize = s.payloadSize ∧ (successExit s).rbyte = s.rbyte ∧ (successExit s).rxlen = s.rxlen ∧
    (successExit s).rxbuf = s.rxbuf ∧ (successExit s).ce = s.ce ∧ (successExit s).pwrS = s.pwrS ∧ (successExit s).rxS = s.rxS ∧
    (successExit s).t0 = s.t0 ∧ (successExit s).hdata = s.hdata ∧ (successExit s).callLen = s.callLen ∧
    (successExit s).host = s.host ∧ (successExit s).cfg = s.cfg ∧ (successExit s).conforming = s.conforming ∧
    (successExit s).answers = s.answers ∧ (successExit s).delays = s.delays ∧ (successExit s).ticks = s.ticks ∧
    (successExit s).modes = s.modes := by
  simp [successExit]

/-- The max-retransmit exit (R166). -/
@[simp] theorem maxRtExit_frame (s : State) :
    (maxRtExit s).payloadSize = s.payloadSize ∧ (maxRtExit s).rbyte = s.rbyte ∧ (maxRtExit s).rxlen = s.rxlen ∧
    (maxRtExit s).rxbuf = s.rxbuf ∧ (maxRtExit s).ce = s.ce ∧ (maxRtExit s).pwrS = s.pwrS ∧ (maxRtExit s).rxS = s.rxS ∧
    (maxRtExit s).t0 = s.t0 ∧ (maxRtExit s).hdata = s.hdata ∧ (maxRtExit s).callLen = s.callLen ∧ (maxRtExit s).host = s.host ∧
    (maxRtExit s).cfg = s.cfg ∧ (maxRtExit s).conforming = s.conforming ∧ (maxRtExit s).answers = s.answers ∧
    (maxRtExit s).delays = s.delays ∧ (maxRtExit s).ticks = s.ticks ∧ (maxRtExit s).modes = s.modes := by
  simp [maxRtExit]

/-- The timeout exit (R167). -/
@[simp] theorem timeoutExit_frame (s : State) :
    (timeoutExit s).payloadSize = s.payloadSize ∧ (timeoutExit s).statusL = s.statusL ∧ (timeoutExit s).rbyte = s.rbyte ∧
    (timeoutExit s).rxlen = s.rxlen ∧ (timeoutExit s).rxbuf = s.rxbuf ∧ (timeoutExit s).ce = s.ce ∧
    (timeoutExit s).csn = s.csn ∧ (timeoutExit s).pwrS = s.pwrS ∧ (timeoutExit s).rxS = s.rxS ∧ (timeoutExit s).idx = s.idx ∧
    (timeoutExit s).t0 = s.t0 ∧ (timeoutExit s).hdata = s.hdata ∧ (timeoutExit s).callLen = s.callLen ∧
    (timeoutExit s).dataIn = s.dataIn ∧ (timeoutExit s).host = s.host ∧ (timeoutExit s).cfg = s.cfg ∧
    (timeoutExit s).dev = s.dev ∧ (timeoutExit s).conforming = s.conforming ∧ (timeoutExit s).answers = s.answers ∧
    (timeoutExit s).drawn = s.drawn ∧ (timeoutExit s).now = s.now ∧ (timeoutExit s).delays = s.delays ∧
    (timeoutExit s).ticks = s.ticks ∧ (timeoutExit s).trace = s.trace ∧ (timeoutExit s).modes = s.modes := by
  simp [timeoutExit]

/-- The poll loop (R164) touches no line level but `CSN`, no shadow and no host register but `RESULT`. -/
@[simp] theorem pollLoop_frame (k : Nat) (s : State) :
    (pollLoop k s).payloadSize = s.payloadSize ∧ (pollLoop k s).rbyte = s.rbyte ∧ (pollLoop k s).rxlen = s.rxlen ∧
    (pollLoop k s).rxbuf = s.rxbuf ∧ (pollLoop k s).ce = s.ce ∧ (pollLoop k s).pwrS = s.pwrS ∧ (pollLoop k s).rxS = s.rxS ∧
    (pollLoop k s).t0 = s.t0 ∧ (pollLoop k s).hdata = s.hdata ∧ (pollLoop k s).callLen = s.callLen ∧
    (pollLoop k s).host = s.host ∧ (pollLoop k s).cfg = s.cfg ∧ (pollLoop k s).conforming = s.conforming ∧
    (pollLoop k s).answers = s.answers ∧ (pollLoop k s).delays = s.delays ∧ (pollLoop k s).modes = s.modes := by
  induction k generalizing s with
  | zero => simp [pollLoop]
  | succ k ih =>
    rw [pollLoop]
    dsimp only
    split
    · simp
    · split
      · simp
      · split <;> simp [ih]

/-- What TRANSMIT does before it polls (R160). -/
@[simp] theorem loadAndFire_frame (arg : Byte) (s : State) :
    (loadAndFire arg s).payloadSize = s.payloadSize ∧ (loadAndFire arg s).result = s.result ∧
    (loadAndFire arg s).rbyte = s.rbyte ∧ (loadAndFire arg s).rxlen = s.rxlen ∧ (loadAndFire arg s).rxbuf = s.rxbuf ∧
    (loadAndFire arg s).busy = s.busy ∧ (loadAndFire arg s).inited = s.inited ∧ (loadAndFire arg s).seq = s.seq ∧
    (loadAndFire arg s).hdata = s.hdata ∧ (loadAndFire arg s).callLen = s.callLen ∧ (loadAndFire arg s).host = s.host ∧
    (loadAndFire arg s).cfg = s.cfg ∧ (loadAndFire arg s).conforming = s.conforming ∧ (loadAndFire arg s).answers = s.answers ∧
    (loadAndFire arg s).delays = s.delays := by
  simp [loadAndFire]

/-- The payload read of RECEIVE (R172, R174). -/
@[simp] theorem readPayload_frame (s : State) :
    (readPayload s).payloadSize = s.payloadSize ∧ (readPayload s).rbyte = s.rbyte ∧ (readPayload s).ce = s.ce ∧
    (readPayload s).pwrS = s.pwrS ∧ (readPayload s).rxS = s.rxS ∧ (readPayload s).t0 = s.t0 ∧ (readPayload s).hdata = s.hdata ∧
    (readPayload s).callLen = s.callLen ∧ (readPayload s).host = s.host ∧ (readPayload s).cfg = s.cfg ∧
    (readPayload s).conforming = s.conforming ∧ (readPayload s).answers = s.answers ∧ (readPayload s).delays = s.delays ∧
    (readPayload s).ticks = s.ticks ∧ (readPayload s).modes = s.modes := by
  simp [readPayload]

/-- The body of RECEIVE (R171). -/
@[simp] theorem receiveBody_frame (s : State) :
    (receiveBody s).payloadSize = s.payloadSize ∧ (receiveBody s).rbyte = s.rbyte ∧ (receiveBody s).t0 = s.t0 ∧
    (receiveBody s).hdata = s.hdata ∧ (receiveBody s).callLen = s.callLen ∧ (receiveBody s).host = s.host ∧
    (receiveBody s).cfg = s.cfg ∧ (receiveBody s).conforming = s.conforming ∧ (receiveBody s).answers = s.answers ∧
    (receiveBody s).delays = s.delays := by
  unfold receiveBody; dsimp only; split <;> simp

end Sys2Proof.Machine
end

