-- ==== Sys2Proof/Laws/Memory.lean ====
section
/-! SUPPORT. The register space as memory: read after write, and that every operation keeps the canonical form. -/

namespace Sys2Proof.Machine

/-- A read after a write gives the byte written in that cell and the old byte in any other. -/
theorem memory_read_write (m : Memory) (lo : Nat) (h : Memory.wfFrom lo m = true) (a c : Nat) (v : Byte) :
    Memory.read (Memory.write m a v) c = if c = a then v else Memory.read m c := by
  induction m generalizing lo with
  | nil =>
    by_cases hv : v = Memory.unlisted a <;> by_cases hc : c = a <;> simp_all [Memory.write, Memory.read]
  | cons p m ih =>
    obtain ⟨b, w⟩ := p
    have hm : Memory.wfFrom (b + 1) m = true := by simp_all [Memory.wfFrom]
    have low : ∀ (m : Memory) (lo c : Nat), Memory.wfFrom lo m = true → c < lo → Memory.read m c = Memory.unlisted c := by
      intro m
      induction m with
      | nil => intros; rfl
      | cons q m ihm =>
        intro lo c hw hlt
        obtain ⟨d, x⟩ := q
        simp only [Memory.wfFrom, Bool.and_eq_true, decide_eq_true_eq] at hw
        rw [Memory.read, if_neg (by omega)]
        exact ihm (d + 1) c hw.2 (by omega)
    by_cases hlt : a < b
    · by_cases hv : v = Memory.unlisted a
      · by_cases hc : c = a
        · subst hc
          rw [Memory.write, if_pos hlt, if_pos hv, if_pos rfl, Memory.read, if_neg (by omega), hv]
          exact low m (b + 1) c hm (by omega)
        · rw [Memory.write, if_pos hlt, if_pos hv, if_neg hc]
      · rw [Memory.write, if_pos hlt, if_neg hv, Memory.read]
    · by_cases he : a = b
      · subst he
        by_cases hv : v = Memory.unlisted a
        · rw [Memory.write, if_neg hlt, if_pos rfl, if_pos hv]
          by_cases hc : c = a
          · subst hc
            rw [if_pos rfl, hv]
            exact low m (c + 1) c hm (by omega)
          · rw [if_neg hc, Memory.read, if_neg hc]
        · by_cases hc : c = a <;> simp [Memory.write, hv, Memory.read, hc]
      · rw [Memory.write, if_neg hlt, if_neg he, Memory.read, Memory.read, ih (b + 1) hm]
        by_cases hc : c = b
        · rw [if_pos hc, if_pos hc, if_neg (by omega)]
        · rw [if_neg hc, if_neg hc]

/-- A write keeps the canonical form from any cell on that is not above the one written. -/
theorem memory_write_wfFrom (m : Memory) (lo a : Nat) (v : Byte) (h : Memory.wfFrom lo m = true) (ha : lo ≤ a) :
    Memory.wfFrom lo (Memory.write m a v) = true := by
  induction m generalizing lo with
  | nil => by_cases hv : v = Memory.unlisted a <;> simp [Memory.write, Memory.wfFrom, hv, ha]
  | cons p m ih =>
    obtain ⟨b, w⟩ := p
    simp only [Memory.wfFrom, Bool.and_eq_true, decide_eq_true_eq] at h
    obtain ⟨⟨h1, h2⟩, h3⟩ := h
    have keep : ∀ (m : Memory) (lo lo' : Nat), lo' ≤ lo → Memory.wfFrom lo m = true → Memory.wfFrom lo' m = true := by
      intro m lo lo' hl hw
      cases m with
      | nil => rfl
      | cons q m =>
        simp only [Memory.wfFrom, Bool.and_eq_true, decide_eq_true_eq] at hw ⊢
        exact ⟨⟨by omega, hw.1.2⟩, hw.2⟩
    by_cases hlt : a < b
    · by_cases hv : v = Memory.unlisted a
      · simp [Memory.write, hlt, hv, Memory.wfFrom, h1, h2, h3]
      · simp only [Memory.write, hlt, hv, if_true, if_false, Memory.wfFrom, Bool.and_eq_true, decide_eq_true_eq]
        exact ⟨⟨ha, hv⟩, ⟨by omega, h2⟩, h3⟩
    · by_cases he : a = b
      · subst he
        by_cases hv : v = Memory.unlisted a
        · simp only [Memory.write, hlt, hv, if_true, if_false]
          exact keep m (a + 1) lo (by omega) h3
        · simp [Memory.write, hv, Memory.wfFrom, ha, h3]
      · simp only [Memory.write, hlt, he, if_false, Memory.wfFrom, Bool.and_eq_true, decide_eq_true_eq]
        exact ⟨⟨h1, h2⟩, ih (b + 1) h3 (by omega)⟩

/-- A write keeps the canonical form. -/
theorem memory_write_wf (m : Memory) (a : Nat) (v : Byte) (h : Memory.wf m = true) : Memory.wf (Memory.write m a v) = true :=
  memory_write_wfFrom m 0 a v h (Nat.zero_le a)

/-- Storing a list of bytes keeps the canonical form. -/
theorem memory_writeAll_wf (vs : List Byte) (m : Memory) (a : Nat) (h : Memory.wf m = true) :
    Memory.wf (Memory.writeAll m a vs) = true := by
  induction vs generalizing m a with
  | nil => exact h
  | cons v vs ih => exact ih _ _ (memory_write_wf m a v h)

/-- The canonical form of a list of cells is canonical. -/
@[simp] theorem memory_canonical_wf (m : Memory) : Memory.wf (Memory.canonical m) = true := by
  induction m with
  | nil => rfl
  | cons p m ih => exact memory_write_wf _ p.1 p.2 ih

/-- What a read gives after a list of bytes was stored from cell `a` on. -/
theorem memory_read_writeAll (vs : List Byte) (m : Memory) (a c : Nat) (h : Memory.wf m = true) :
    Memory.read (Memory.writeAll m a vs) c =
      if a ≤ c ∧ c < a + vs.length then vs.getD (c - a) 0 else Memory.read m c := by
  induction vs generalizing m a with
  | nil => simp [Memory.writeAll]
  | cons v vs ih =>
    rw [Memory.writeAll, ih _ _ (memory_write_wf m a v h), memory_read_write m 0 h]
    by_cases hc : c = a
    · subst hc; simp
    · by_cases hr : a + 1 ≤ c ∧ c < a + 1 + vs.length
      · have e : c - a = (c - (a + 1)) + 1 := by omega
        rw [if_pos hr, if_pos (by simp; omega), e, List.getD_cons_succ]
      · rw [if_neg hr, if_neg hc, if_neg (by simp; omega)]

/-- A device about which nothing is known has its registers in the canonical form. -/
@[simp] theorem freeDevice_wf (n : Nat) : Memory.wf (freeDevice n).regs = true := memory_canonical_wf _

end Sys2Proof.Machine
end

