-- ==== Sys2Proof/Laws/Transactions.lean ====
section
/-! SUPPORT. What the framed transaction does, once (R100, R101): its events, what it latches, and what it does in the device. -/

namespace Sys2Proof.Machine

/-! ## Exchanges -/

@[simp] theorem radioActs_regs (r : Radio) (d : Device) : (radioActs r d).regs = d.regs := rfl

/-- A quiet radio changes nothing. -/
@[simp] theorem radioActs_quiet (d : Device) : radioActs Radio.quiet d = d := by
  simp [radioActs, Radio.quiet, orFlags, keepMarked]

/-- The radio only takes payloads out of the transmit FIFO (R161). -/
theorem keepMarked_sublist (ms : List Bool) (q : List Payload) : (keepMarked ms q).Sublist q := by
  induction ms generalizing q with
  | nil => simp [keepMarked]
  | cons m ms ih =>
    cases q with
    | nil => simp [keepMarked]
    | cons p q =>
      cases m
      · exact (ih q).cons p
      · exact (ih q).cons_cons p

/-- Flags are only set by it (R71). -/
theorem orFlags_assoc (f g h : Flags) : orFlags (orFlags f g) h = orFlags f (orFlags g h) := by
  simp [orFlags, Bool.or_assoc]

/-- Flags that were only set are kept (R34). -/
theorem keepsFlags_of_orFlags (s t : State) (g : Flags) (h : t.dev.flags = orFlags s.dev.flags g) : KeepsFlags s t := by
  rw [KeepsFlags, h]
  simp +contextual [orFlags]

/-- Exchange 0 (R33): the status byte is received and latched. -/
theorem xferCommand_trace (c : Byte) (s : State) :
    (xferCommand c s).trace = s.trace ++ [.x c (xferCommand c s).statusL] := rfl

/-- Without trust in the device the status byte is the oracle's (R66). -/
theorem xferCommand_status_oracle (c : Byte) (s : State) (h : s.trusts = false) :
    (xferCommand c s).statusL = s.answer.byte := by
  have h' : (takeAnswer s).trusts = false := h
  simp [xferCommand, statusReply, h']

/-- One data exchange: one byte sent, one received and kept. -/
theorem xferData_spec (c t : Byte) (s : State) :
    ∃ r, (xferData c t s).dataIn = s.dataIn ++ [r] ∧ (xferData c t s).trace = s.trace ++ [.x t r] := ⟨_, rfl, rfl⟩

/-- The data phase: each byte sent once, in order, one byte received for each; the registers of the device stay (R63, R67). -/
theorem xferAll_spec (c : Byte) (ts : List Byte) (s : State) :
    ∃ rs : List Byte, rs.length = ts.length ∧ (xferAll c ts s).dataIn = s.dataIn ++ rs ∧
      (xferAll c ts s).trace = s.trace ++ List.zipWith Event.x ts rs ∧
      (xferAll c ts s).idx = s.idx + BitVec.ofNat 6 ts.length ∧
      (xferAll c ts s).drawn = s.drawn + ts.length ∧ (xferAll c ts s).dev.regs = s.dev.regs := by
  induction ts generalizing s with
  | nil => exact ⟨[], by simp [xferAll]⟩
  | cons t ts ih =>
    obtain ⟨r, hd, ht⟩ := xferData_spec c t s
    obtain ⟨rs, h1, h2, h3, h4, h5, h6⟩ := ih (xferData c t s)
    refine ⟨r :: rs, by simp [h1], ?_, ?_, ?_, ?_, ?_⟩
    · rw [xferAll, h2, hd]; simp
    · rw [xferAll, h3, ht]; simp
    · rw [xferAll, h4]
      simp only [xferData_idx, List.length_cons, BitVec.ofNat_add]
      rw [BitVec.add_assoc, BitVec.add_comm 1]
      rfl
    · rw [xferAll, h5]; simp; omega
    · rw [xferAll, h6]; simp

/-! ## The transaction -/

/-- The transaction up to its last edge, before it takes effect in the device. -/
def frameOf (c : Byte) (out : List Byte) (s : State) : State :=
  s |> setCSN false |> holdCSN |> xferCommand c |> xferAll c out |> holdCSN |> setCSN true

theorem cmd_eq (c : Byte) (out : List Byte) (s : State) : cmd c out s = deviceActs c out (frameOf c out s) := rfl

/-- Everything a transaction does at the port (R100): one select, the command byte with the status byte latched, each data byte
with the byte returned for it, one deselect. -/
theorem cmd_spec (c : Byte) (out : List Byte) (s : State) :
    ∃ rs : List Byte, rs.length = out.length ∧ (cmd c out s).dataIn = rs ∧
      (cmd c out s).trace = s.trace ++ txn c (cmd c out s).statusL out rs ∧
      (cmd c out s).idx = BitVec.ofNat 6 out.length ∧ (cmd c out s).drawn = s.drawn + 1 + out.length ∧
      (cmd c out s).csn = true := by
  obtain ⟨rs, h1, h2, h3, h4, h5, _⟩ := xferAll_spec c out (xferCommand c (holdCSN (setCSN false s)))
  refine ⟨rs, h1, ?_, ?_, ?_, ?_, ?_⟩
  · simp [cmd, h2]
  · simp [cmd, h3, xferCommand_trace, txn]
  · simp [cmd, h4]
  · simp [cmd, h5]
  · simp [cmd]

@[simp] theorem cmd_csn (c : Byte) (out : List Byte) (s : State) : (cmd c out s).csn = true := (cmd_spec c out s).choose_spec.2.2.2.2.2

/-- The number of exchanges of a transaction (R101). -/
@[simp] theorem cmd_drawn (c : Byte) (out : List Byte) (s : State) : (cmd c out s).drawn = s.drawn + 1 + out.length :=
  (cmd_spec c out s).choose_spec.2.2.2.2.1

@[simp] theorem cmd_idx (c : Byte) (out : List Byte) (s : State) : (cmd c out s).idx = BitVec.ofNat 6 out.length :=
  (cmd_spec c out s).choose_spec.2.2.2.1

/-- Without trust in the device the status byte latched is the oracle's byte of the first exchange (R66). -/
theorem cmd_status_oracle (c : Byte) (out : List Byte) (s : State) (h : s.trusts = false) :
    (cmd c out s).statusL = s.answer.byte := by
  have h' : (holdCSN (setCSN false s)).trusts = false := h
  have e : (cmd c out s).statusL = (xferCommand c (holdCSN (setCSN false s))).statusL := by simp [cmd]
  rw [e, xferCommand_status_oracle _ _ h']
  rfl

/-! ## What it does in the device -/

theorem frameOf_regs (c : Byte) (out : List Byte) (s : State) : (frameOf c out s).dev.regs = s.dev.regs := by
  obtain ⟨_, _, _, _, _, _, h⟩ := xferAll_spec c out (xferCommand c (holdCSN (setCSN false s)))
  simp [frameOf, h]

/-- During the exchanges the flags are only set, and payloads only leave the transmit FIFO (R34, R71, R161). -/
theorem xferAll_device (c : Byte) (ts : List Byte) (s : State) :
    (∃ g, (xferAll c ts s).dev.flags = orFlags s.dev.flags g) ∧ (xferAll c ts s).dev.txFifo.Sublist s.dev.txFifo := by
  induction ts generalizing s with
  | nil => exact ⟨⟨⟨false, false, false⟩, by simp [xferAll, orFlags]⟩, List.Sublist.refl _⟩
  | cons t ts ih =>
    obtain ⟨⟨g, hg⟩, hq⟩ := ih (xferData c t s)
    refine ⟨⟨orFlags s.answer.radio.set g, ?_⟩, ?_⟩
    · rw [xferAll, hg]; simp [radioActs, orFlags_assoc]
    · exact hq.trans (keepMarked_sublist _ _)

theorem frameOf_device (c : Byte) (out : List Byte) (s : State) :
    (∃ g, (frameOf c out s).dev.flags = orFlags s.dev.flags g) ∧ (frameOf c out s).dev.txFifo.Sublist s.dev.txFifo := by
  obtain ⟨⟨g, hg⟩, hq⟩ := xferAll_device c out (xferCommand c (holdCSN (setCSN false s)))
  refine ⟨⟨orFlags s.answer.radio.set g, ?_⟩, ?_⟩
  · have e : (frameOf c out s).dev.flags = (xferAll c out (xferCommand c (holdCSN (setCSN false s)))).dev.flags := by simp [frameOf]
    rw [e, hg]; simp [radioActs, orFlags_assoc, State.answer]
  · have e : (frameOf c out s).dev.txFifo = (xferAll c out (xferCommand c (holdCSN (setCSN false s)))).dev.txFifo := by simp [frameOf]
    rw [e]
    exact hq.trans (keepMarked_sublist _ _)

/-- A quiet script's next answer has no radio activity. -/
theorem answer_quiet (n : Nat) (s : State) (h : s.QuietFor (n + 1)) : s.answer.radio = Radio.quiet := by
  have h0 := h 0 (Nat.succ_pos n)
  rw [Nat.add_zero, Option.map_eq_some_iff] at h0
  obtain ⟨a, ha, hr⟩ := h0
  rw [State.answer, List.getD_eq_getElem?_getD, ha, Option.getD_some, hr]

/-- One exchange on, the rest of a quiet script is quiet. -/
theorem quietFor_next (n : Nat) (s t : State) (h : s.QuietFor (n + 1)) (ha : t.answers = s.answers) (hd : t.drawn = s.drawn + 1) :
    t.QuietFor n := by
  intro k hk
  rw [ha, hd, Nat.add_assoc, Nat.add_comm 1 k]
  exact h (k + 1) (by omega)

/-- The data phase changes nothing in the device while the radio is quiet. -/
theorem xferAll_quiet (c : Byte) (ts : List Byte) (s : State) (h : s.QuietFor ts.length) : (xferAll c ts s).dev = s.dev := by
  induction ts generalizing s with
  | nil => rfl
  | cons t ts ih =>
    rw [xferAll, ih _ (quietFor_next _ s _ h (by simp) (by simp)), xferData_dev, answer_quiet _ s h, radioActs_quiet]

/-- A transaction's exchanges change nothing in the device while the radio is quiet. -/
theorem frameOf_quiet (c : Byte) (out : List Byte) (s : State) (h : s.QuietFor (out.length + 1)) :
    (frameOf c out s).dev = s.dev := by
  have hq : (holdCSN (setCSN false s)).QuietFor (out.length + 1) := h
  have e : (frameOf c out s).dev = (xferAll c out (xferCommand c (holdCSN (setCSN false s)))).dev := by simp [frameOf]
  rw [e, xferAll_quiet _ _ _ (quietFor_next _ _ _ hq (by simp) (by simp)), xferCommand_dev, answer_quiet _ _ hq, radioActs_quiet]
  rfl

/-- The transactions that leave the FIFOs alone: a register write with room for its bytes, and a no-op (R107, R113, R198). -/
theorem cmd_queues (c : Byte) (out : List Byte) (s : State)
    (h : decodeBus c = some .nop ∨
      ∃ a, decodeBus c = some (.writeRegister a) ∧ reservedAddr a = false ∧ out.length ≤ (regWidth a).getD 32) :
    KeepsQueues (out.length + 1) s (cmd c out s) := by
  have e : (cmd c out s).dev.txFifo = (frameOf c out s).dev.txFifo ∧ (cmd c out s).dev.rxFifo = (frameOf c out s).dev.rxFifo := by
    rw [cmd_eq]
    obtain h | ⟨a, h, h1, h2⟩ := h
    · simp [deviceActs, h]
    · cases out with
      | nil => simp [deviceActs, h, registerWritten]
      | cons v vs =>
        have hn : ¬ (regWidth a).getD 32 < (v :: vs).length := by omega
        simp only [deviceActs, h, registerWritten, h1, hn, decide_false, Bool.or_false, Bool.false_eq_true, if_false]
        split <;> exact ⟨rfl, rfl⟩
  rw [KeepsQueues, e.1, e.2]
  exact ⟨(frameOf_device c out s).2, fun hq => by rw [frameOf_quiet c out s hq]; exact ⟨rfl, rfl⟩⟩

/-- The transactions that clear no flag: all but a write to the status register and those of unknown effect (R34). -/
theorem cmd_flags_kept (c : Byte) (out : List Byte) (s : State)
    (h : decodeBus c = some .writeTxPayload ∨ decodeBus c = some .flushTx ∨ decodeBus c = some .flushRx ∨
      decodeBus c = some .nop ∨ (∃ a, decodeBus c = some (.readRegister a)) ∨
      (decodeBus c = some .readRxPayload ∧ s.widthAgrees = true) ∨
      ∃ a, decodeBus c = some (.writeRegister a) ∧ reservedAddr a = false ∧ out.length ≤ (regWidth a).getD 32 ∧ a ≠ 0x07) :
    ∃ g, (cmd c out s).dev.flags = orFlags s.dev.flags g := by
  obtain ⟨⟨g, hg⟩, _⟩ := frameOf_device c out s
  refine ⟨g, ?_⟩
  rw [cmd_eq, ← hg]
  have hw : (frameOf c out s).widthAgrees = s.widthAgrees := by
    have hp : (frameOf c out s).payloadSize = s.payloadSize := by simp [frameOf]
    unfold State.widthAgrees State.devReg
    rw [frameOf_regs, hp]
  obtain h | h | h | h | ⟨a, h⟩ | ⟨h, hs⟩ | ⟨a, h, h1, h2, h3⟩ := h
  all_goals simp only [deviceActs, h]
  · simp [hw, hs]
  · cases out with
    | nil => rfl
    | cons v vs =>
      have hn : ¬ (regWidth a).getD 32 < (v :: vs).length := by omega
      simp only [registerWritten, h1, hn, h3, decide_false, Bool.or_false, if_false, Bool.false_eq_true]

/-- A command that is neither a register write nor of unknown effect leaves every register of the device (R106, R109 to R113). -/
theorem cmd_regs_same (c : Byte) (out : List Byte) (s : State)
    (h : decodeBus c = some .writeTxPayload ∨ decodeBus c = some .flushTx ∨ decodeBus c = some .flushRx ∨
      decodeBus c = some .nop ∨ ∃ a, decodeBus c = some (.readRegister a)) :
    (cmd c out s).dev.regs = s.dev.regs := by
  rw [cmd_eq, ← frameOf_regs c out s]
  obtain h | h | h | h | ⟨a, h⟩ := h <;> simp [deviceActs, h]

/-- A register write stores its bytes (R107). -/
theorem cmd_regs_write (c : Byte) (a : BitVec 5) (out : List Byte) (s : State) (h : decodeBus c = some (.writeRegister a))
    (hr : reservedAddr a = false) (hw : out.length ≤ (regWidth a).getD 32) (h7 : a ≠ 0x07) :
    (cmd c out s).dev.regs = Memory.writeAll s.dev.regs (cellOf a 0) out := by
  rw [cmd_eq, ← frameOf_regs c out s]
  cases out with
  | nil => simp [deviceActs, h, registerWritten, Memory.writeAll]
  | cons v vs =>
    have hn : ¬ (regWidth a).getD 32 < (v :: vs).length := by omega
    simp only [deviceActs, h, registerWritten, hr, hn, decide_false, Bool.or_false, h7]
    simp

/-- The device reads the byte of a register write as that write. -/
theorem decodeBus_writeByte (a : Byte) : decodeBus (writeByte a) = some (.writeRegister (a.setWidth 5)) := by
  revert a; decide

/-- The device reads the byte of a register read as that read. -/
theorem decodeBus_readByte (a : Byte) : decodeBus (readByte a) = some (.readRegister (a.setWidth 5)) := by
  revert a; decide

/-- Every transaction keeps the device's registers in the canonical form. -/
theorem cmd_wf (c : Byte) (out : List Byte) (s : State) (h : Memory.wf s.dev.regs = true) :
    Memory.wf (cmd c out s).dev.regs = true := by
  have hf : Memory.wf (frameOf c out s).dev.regs = true := by rw [frameOf_regs]; exact h
  rw [cmd_eq]
  unfold deviceActs
  split
  case h_2 a _ =>
    unfold registerWritten
    split
    · exact hf
    · split
      · simp
      · split
        · exact hf
        · exact memory_writeAll_wf _ _ _ hf
  case h_3 => split <;> simp [hf]
  all_goals simp [hf]

end Sys2Proof.Machine
end

