-- ==== Sys2Proof/Laws/Registers.lean ====
section
/-! SUPPORT. What the register calls and the configuration update do (R102 to R105, R114, R141), each said once. -/

namespace Sys2Proof.Machine

/-! ## The shadows -/

@[simp] theorem shadowWrite_csn (a : Byte) (bs : List Byte) (s : State) : (shadowWrite a bs s).csn = s.csn := by simp

/-- A write of a byte to register 0x00 sets the shadows and records MODE (R24). -/
theorem shadowWrite_zero (v : Byte) (s : State) : shadowWrite 0x00 [v] s = shadow v s := by
  simp [shadowWrite]

/-- A block written to register 0x00 sets them from its first byte (R24, log 22). -/
theorem shadowWrite_cons (a v : Byte) (vs : List Byte) (s : State) (h : a &&& 0x1F = 0) :
    shadowWrite a (v :: vs) s = shadow v s := by
  unfold shadowWrite
  exact if_pos h

/-- A write to another register leaves the shadows (R24). -/
theorem shadowWrite_other (a : Byte) (bs : List Byte) (s : State) (h : a &&& 0x1F ≠ 0) : shadowWrite a bs s = s := by
  unfold shadowWrite
  split
  · rfl
  · rw [if_neg h]

/-! ## Writes -/

/-- The events of a register write, and what it latches (R105). -/
theorem regWriteBlock_spec (a : Byte) (bs : List Byte) (s : State) :
    ∃ ins : List Byte, ins.length = bs.length ∧
      (regWriteBlock a bs s).trace = s.trace ++ txn (writeByte a) (regWriteBlock a bs s).statusL bs ins ∧
      (regWriteBlock a bs s).idx = BitVec.ofNat 6 bs.length ∧ (regWriteBlock a bs s).drawn = s.drawn + 1 + bs.length ∧
      (regWriteBlock a bs s).csn = true := by
  obtain ⟨rs, h1, _, h3, _⟩ := cmd_spec (writeByte a) bs s
  exact ⟨rs, h1, by simpa [regWriteBlock] using h3, by simp [regWriteBlock],
    by simp [regWriteBlock], by simp [regWriteBlock]⟩

/-- The registers after a write the register has room for (R107). -/
theorem regWriteBlock_regs (a : Byte) (bs : List Byte) (s : State) (hr : reservedAddr (a.setWidth 5) = false)
    (hw : bs.length ≤ (regWidth (a.setWidth 5)).getD 32) (h7 : a.setWidth 5 ≠ (0x07 : BitVec 5)) :
    (regWriteBlock a bs s).dev.regs = Memory.writeAll s.dev.regs (cellOf (a.setWidth 5) 0) bs := by
  simp [regWriteBlock, cmd_regs_write _ _ bs s (decodeBus_writeByte a) hr hw h7]

theorem regWriteBlock_wf (a : Byte) (bs : List Byte) (s : State) (h : Memory.wf s.dev.regs = true) :
    Memory.wf (regWriteBlock a bs s).dev.regs = true := by
  simpa [regWriteBlock] using cmd_wf (writeByte a) bs s h

@[simp] theorem regWriteBlock_csn (a : Byte) (bs : List Byte) (s : State) : (regWriteBlock a bs s).csn = true := by
  simp [regWriteBlock]

@[simp] theorem regWriteBlock_drawn (a : Byte) (bs : List Byte) (s : State) :
    (regWriteBlock a bs s).drawn = s.drawn + 1 + bs.length := by simp [regWriteBlock]

/-- The events of a one-byte write (R103). -/
theorem regWrite_spec (a v : Byte) (s : State) :
    ∃ r : Byte, (regWrite a v s).trace = s.trace ++ txn (writeByte a) (regWrite a v s).statusL [v] [r] := by
  obtain ⟨ins, h1, h2, _⟩ := regWriteBlock_spec a [v] s
  obtain ⟨r, rfl⟩ : ∃ r, ins = [r] := by
    match ins, h1 with
    | [r], _ => exact ⟨r, rfl⟩
  exact ⟨r, by simpa [regWrite] using h2⟩

@[simp] theorem regWrite_csn (a v : Byte) (s : State) : (regWrite a v s).csn = true := by simp [regWrite]

@[simp] theorem regWrite_drawn (a v : Byte) (s : State) : (regWrite a v s).drawn = s.drawn + 2 := by simp [regWrite]

@[simp] theorem regWrite_idx (a v : Byte) (s : State) : (regWrite a v s).idx = 1 := by
  simp [regWrite, regWriteBlock]

theorem regWrite_wf (a v : Byte) (s : State) (h : Memory.wf s.dev.regs = true) : Memory.wf (regWrite a v s).dev.regs = true :=
  regWriteBlock_wf a [v] s h

/-- A one-byte write to register 0x00 sets both shadows (R24). -/
theorem regWrite_zero_shadows (v : Byte) (s : State) :
    (regWrite 0x00 v s).pwrS = v.getLsbD s.cfg.powerBit ∧ (regWrite 0x00 v s).rxS = v.getLsbD s.cfg.rxmodeBit ∧
      (regWrite 0x00 v s).modes.map Prod.snd =
        s.modes.map Prod.snd ++ [modeOf (v.getLsbD s.cfg.powerBit) (v.getLsbD s.cfg.rxmodeBit) s.ce] := by
  simp only [regWrite, regWriteBlock, shadowWrite_zero]
  simp [shadow, State.mode]

/-- A one-byte write to another register leaves them. -/
theorem regWrite_other_shadows (a v : Byte) (s : State) (h : a &&& 0x1F ≠ 0) :
    (regWrite a v s).pwrS = s.pwrS ∧ (regWrite a v s).rxS = s.rxS ∧ (regWrite a v s).modes = s.modes := by
  simp [regWrite, regWriteBlock, shadowWrite_other _ _ _ h]

/-- The cell a one-byte write stores to, and every other cell (R103, R107). -/
theorem regWrite_read (a v : Byte) (s : State) (hr : reservedAddr (a.setWidth 5) = false) (h7 : a.setWidth 5 ≠ (0x07 : BitVec 5))
    (hm : Memory.wf s.dev.regs = true) (c : Nat) :
    Memory.read (regWrite a v s).dev.regs c =
      if c = cellOf (a.setWidth 5) 0 then v else Memory.read s.dev.regs c := by
  have hw : [v].length ≤ (regWidth (a.setWidth 5)).getD 32 := by
    unfold regWidth
    repeat (first | split | simp)
  rw [regWrite, regWriteBlock_regs a [v] s hr hw h7, Memory.writeAll, Memory.writeAll, memory_read_write _ 0 hm]

/-- A write to the status register leaves every register cell (R107). -/
theorem clearFlags_regs (m : Byte) (s : State) : (clearFlags m s).dev.regs = s.dev.regs := by
  have h : decodeBus (writeByte 0x07) = some (.writeRegister 0x07) := by decide
  have hn : reservedAddr 0x07 = false := by decide
  have hw : ¬ (regWidth 0x07).getD 32 < 1 := by decide
  simp only [clearFlags, regWrite, regWriteBlock, shadowWrite_frame, cmd_eq, deviceActs, h, registerWritten, hn,
    List.length_cons, List.length_nil, Nat.zero_add, hw, decide_false, Bool.or_false]
  simp [frameOf_regs]

/-- What it leaves of the flags: those that were set before it or became so during it, but for those whose bit is 1 (R37). -/
theorem clearFlags_flags (m : Byte) (s : State) :
    ∃ g, (clearFlags m s).dev.flags = clearedBy s.cfg m (orFlags s.dev.flags g) := by
  have h : decodeBus (writeByte 0x07) = some (.writeRegister 0x07) := by decide
  have hn : reservedAddr 0x07 = false := by decide
  have hw : ¬ (regWidth 0x07).getD 32 < 1 := by decide
  obtain ⟨⟨g, hg⟩, _⟩ := frameOf_device (writeByte 0x07) [m] s
  refine ⟨g, ?_⟩
  rw [← hg]
  simp only [clearFlags, regWrite, regWriteBlock, shadowWrite_frame, cmd_eq, deviceActs, h, registerWritten, hn,
    List.length_cons, List.length_nil, Nat.zero_add, hw, decide_false, Bool.or_false]
  simp [frameOf]

/-- The events of a clearing write (R114). -/
theorem clearFlags_spec (m : Byte) (s : State) :
    ∃ r : Byte, (clearFlags m s).trace = s.trace ++ txn 0x27 (clearFlags m s).statusL [m] [r] :=
  regWrite_spec 0x07 m s

@[simp] theorem clearFlags_csn (m : Byte) (s : State) : (clearFlags m s).csn = true := by simp [clearFlags]

@[simp] theorem clearFlags_drawn (m : Byte) (s : State) : (clearFlags m s).drawn = s.drawn + 2 := by simp [clearFlags]

/-! ## Reads -/

/-- The events of a register read and the bytes it returns (R104). -/
theorem regReadBlock_spec (a : Byte) (len : Nat) (s : State) :
    (regReadBlock a len s).dataIn.length = len ∧
      (regReadBlock a len s).trace = s.trace ++
        txn (readByte a) (regReadBlock a len s).statusL (List.replicate len s.cfg.fill) (regReadBlock a len s).dataIn := by
  obtain ⟨rs, h1, h2, h3, _⟩ := cmd_spec (readByte a) (List.replicate len s.cfg.fill) s
  subst h2
  exact ⟨by simpa [regReadBlock] using h1, h3⟩

/-- A register read leaves every register of the device (R106). -/
@[simp] theorem regReadBlock_regs (a : Byte) (len : Nat) (s : State) : (regReadBlock a len s).dev.regs = s.dev.regs :=
  cmd_regs_same _ _ _ (.inr (.inr (.inr (.inr ⟨_, decodeBus_readByte a⟩))))

/-- The one byte a one-byte read returns (R102). -/
theorem regRead_spec (a : Byte) (s : State) :
    (regRead a s).dataIn = [(regRead a s).readValue] ∧
      (regRead a s).trace = s.trace ++
        txn (readByte a) (regRead a s).statusL [s.cfg.fill] [(regRead a s).readValue] := by
  obtain ⟨h1, h2⟩ := regReadBlock_spec a 1 s
  obtain ⟨r, hr⟩ : ∃ r, (regReadBlock a 1 s).dataIn = [r] := by
    match h : (regReadBlock a 1 s).dataIn, h1 with
    | [r], _ => exact ⟨r, rfl⟩
  have hv : (regRead a s).readValue = r := by simp [regRead, State.readValue, hr]
  rw [hv]
  exact ⟨hr, by simpa [regRead, hr] using h2⟩

@[simp] theorem regRead_regs (a : Byte) (s : State) : (regRead a s).dev.regs = s.dev.regs := regReadBlock_regs a 1 s

@[simp] theorem regRead_csn (a : Byte) (s : State) : (regRead a s).csn = true := by simp [regRead, regReadBlock]

@[simp] theorem regRead_drawn (a : Byte) (s : State) : (regRead a s).drawn = s.drawn + 2 := by simp [regRead, regReadBlock]

/-! ## Commands without data -/

/-- The events of a transaction without data (R100). -/
theorem cmd_nil_trace (c : Byte) (s : State) :
    (cmd c [] s).trace = s.trace ++ txn c (cmd c [] s).statusL [] [] := by
  obtain ⟨rs, h1, _, h3, _⟩ := cmd_spec c [] s
  have : rs = [] := List.eq_nil_of_length_eq_zero h1
  simpa [this] using h3

@[simp] theorem statusQuery_regs (s : State) : (statusQuery s).dev.regs = s.dev.regs :=
  cmd_regs_same _ _ _ (.inr (.inr (.inr (.inl (by decide)))))

@[simp] theorem flushTxFifo_regs (s : State) : (flushTxFifo s).dev.regs = s.dev.regs :=
  cmd_regs_same _ _ _ (.inr (.inl (by decide)))

@[simp] theorem flushRxFifo_regs (s : State) : (flushRxFifo s).dev.regs = s.dev.regs :=
  cmd_regs_same _ _ _ (.inr (.inr (.inl (by decide))))

@[simp] theorem flushTxFifo_empty (s : State) : (flushTxFifo s).dev.txFifo = [] := by
  have h : decodeBus 0xE1 = some .flushTx := by decide
  simp only [flushTxFifo, cmd_eq, deviceActs, h]

@[simp] theorem flushRxFifo_empty (s : State) : (flushRxFifo s).dev.rxFifo = [] := by
  have h : decodeBus 0xE2 = some .flushRx := by decide
  simp only [flushRxFifo, cmd_eq, deviceActs, h]

@[simp] theorem statusQuery_csn (s : State) : (statusQuery s).csn = true := by simp [statusQuery]
@[simp] theorem flushTxFifo_csn (s : State) : (flushTxFifo s).csn = true := by simp [flushTxFifo]
@[simp] theorem flushRxFifo_csn (s : State) : (flushRxFifo s).csn = true := by simp [flushRxFifo]
@[simp] theorem statusQuery_drawn (s : State) : (statusQuery s).drawn = s.drawn + 1 := by simp [statusQuery]
@[simp] theorem flushTxFifo_drawn (s : State) : (flushTxFifo s).drawn = s.drawn + 1 := by simp [flushTxFifo]
@[simp] theorem flushRxFifo_drawn (s : State) : (flushRxFifo s).drawn = s.drawn + 1 := by simp [flushRxFifo]

theorem statusQuery_trace (s : State) : (statusQuery s).trace = s.trace ++ txn 0xFF (statusQuery s).statusL [] [] :=
  cmd_nil_trace 0xFF s

theorem flushTxFifo_trace (s : State) : (flushTxFifo s).trace = s.trace ++ txn 0xE1 (flushTxFifo s).statusL [] [] :=
  cmd_nil_trace 0xE1 s

theorem flushRxFifo_trace (s : State) : (flushRxFifo s).trace = s.trace ++ txn 0xE2 (flushRxFifo s).statusL [] [] :=
  cmd_nil_trace 0xE2 s

/-! ## What keeps the flags (R34) -/

theorem regReadBlock_flags (a : Byte) (n : Nat) (s : State) : ∃ g, (regReadBlock a n s).dev.flags = orFlags s.dev.flags g :=
  cmd_flags_kept _ _ _ (.inr (.inr (.inr (.inr (.inl ⟨_, decodeBus_readByte a⟩)))))

theorem regWriteBlock_flags (a : Byte) (bs : List Byte) (s : State) (hr : reservedAddr (a.setWidth 5) = false)
    (hw : bs.length ≤ (regWidth (a.setWidth 5)).getD 32) (h7 : a.setWidth 5 ≠ (0x07 : BitVec 5)) :
    ∃ g, (regWriteBlock a bs s).dev.flags = orFlags s.dev.flags g := by
  simpa [regWriteBlock] using cmd_flags_kept (writeByte a) bs s
    (.inr (.inr (.inr (.inr (.inr (.inr ⟨_, decodeBus_writeByte a, hr, hw, h7⟩))))))

/-- A register write with room for its bytes leaves the FIFOs alone (R198). -/
theorem regWriteBlock_queues (a : Byte) (bs : List Byte) (s : State) (hr : reservedAddr (a.setWidth 5) = false)
    (hw : bs.length ≤ (regWidth (a.setWidth 5)).getD 32) : KeepsQueues (bs.length + 1) s (regWriteBlock a bs s) := by
  simpa only [KeepsQueues, regWriteBlock, shadowWrite_frame] using
    cmd_queues (writeByte a) bs s (.inr ⟨_, decodeBus_writeByte a, hr, hw⟩)

theorem statusQuery_flags (s : State) : ∃ g, (statusQuery s).dev.flags = orFlags s.dev.flags g :=
  cmd_flags_kept _ _ _ (.inr (.inr (.inr (.inl (by decide)))))

theorem flushTxFifo_flags (s : State) : ∃ g, (flushTxFifo s).dev.flags = orFlags s.dev.flags g :=
  cmd_flags_kept _ _ _ (.inr (.inl (by decide)))

/-- Loading a payload keeps the flags and adds the payload to what the radio leaves of the queue (R109, R161). -/
theorem loadPayload_device (out : List Byte) (s : State) :
    (∃ g, (cmd 0xA0 out s).dev.flags = orFlags s.dev.flags g) ∧
      ∃ q : List Payload, q.Sublist s.dev.txFifo ∧ (cmd 0xA0 out s).dev.txFifo = q ++ [out] := by
  have h : decodeBus 0xA0 = some .writeTxPayload := by decide
  refine ⟨cmd_flags_kept _ _ _ (.inl h), (frameOf 0xA0 out s).dev.txFifo, (frameOf_device 0xA0 out s).2, ?_⟩
  simp only [cmd_eq, deviceActs, h]

/-! ## The configuration update (R141) -/

/-- The byte the update read, `v`. -/
def cfgRead (s : State) : Byte := (regRead 0x00 s).readValue

/-- The byte the update writes, `w = (v | set) & ~clr`. -/
def cfgWritten (set clr : Byte) (s : State) : Byte := (cfgRead s ||| set) &&& ~~~clr

theorem cfgUpdate_eq (set clr : Byte) (s : State) :
    cfgUpdate set clr s = regWrite 0x00 (cfgWritten set clr s) (regRead 0x00 s) := rfl

/-- The events of the update: a live read, then the write (R141). -/
theorem cfgUpdate_trace (set clr : Byte) (s : State) :
    ∃ st r : Byte, (cfgUpdate set clr s).trace = s.trace ++ txn 0x00 st [s.cfg.fill] [cfgRead s] ++
      txn 0x20 (cfgUpdate set clr s).statusL [cfgWritten set clr s] [r] := by
  obtain ⟨r, hr⟩ := regWrite_spec 0x00 (cfgWritten set clr s) (regRead 0x00 s)
  obtain ⟨_, ht⟩ := regRead_spec 0x00 s
  refine ⟨(regRead 0x00 s).statusL, r, ?_⟩
  rw [cfgUpdate_eq, hr, ht]
  simp [cfgRead, readByte, writeByte]

/-- The shadows after the update (R24, R141). -/
theorem cfgUpdate_shadows (set clr : Byte) (s : State) :
    (cfgUpdate set clr s).pwrS = (cfgWritten set clr s).getLsbD s.cfg.powerBit ∧
      (cfgUpdate set clr s).rxS = (cfgWritten set clr s).getLsbD s.cfg.rxmodeBit ∧
      (cfgUpdate set clr s).modes.map Prod.snd = s.modes.map Prod.snd ++
        [modeOf ((cfgWritten set clr s).getLsbD s.cfg.powerBit) ((cfgWritten set clr s).getLsbD s.cfg.rxmodeBit) s.ce] := by
  have h := regWrite_zero_shadows (cfgWritten set clr s) (regRead 0x00 s)
  simpa [cfgUpdate_eq] using h

/-- The registers after the update: 0x00 holds the byte written, every other cell is as it was (R141). -/
theorem cfgUpdate_read (set clr : Byte) (s : State) (hm : Memory.wf s.dev.regs = true) (c : Nat) :
    Memory.read (cfgUpdate set clr s).dev.regs c =
      if c = cellOf 0x00 0 then cfgWritten set clr s else Memory.read s.dev.regs c := by
  have h := regWrite_read 0x00 (cfgWritten set clr s) (regRead 0x00 s) (by decide) (by decide) (by simpa using hm) c
  simpa [cfgUpdate_eq] using h

theorem cfgUpdate_wf (set clr : Byte) (s : State) (h : Memory.wf s.dev.regs = true) :
    Memory.wf (cfgUpdate set clr s).dev.regs = true := by
  rw [cfgUpdate_eq]
  exact regWrite_wf _ _ _ (by simpa using h)

theorem cfgUpdate_flags (set clr : Byte) (s : State) : ∃ g, (cfgUpdate set clr s).dev.flags = orFlags s.dev.flags g := by
  obtain ⟨g, hg⟩ := regReadBlock_flags 0x00 1 s
  obtain ⟨g', hg'⟩ := regWriteBlock_flags 0x00 [cfgWritten set clr s] (regRead 0x00 s) (by decide) (show 1 ≤ _ by decide) (by decide)
  exact ⟨orFlags g g', by rw [cfgUpdate_eq, regWrite, hg', regRead, hg, orFlags_assoc]⟩

@[simp] theorem cfgUpdate_csn (set clr : Byte) (s : State) : (cfgUpdate set clr s).csn = true := by simp [cfgUpdate_eq]
@[simp] theorem cfgUpdate_drawn (set clr : Byte) (s : State) : (cfgUpdate set clr s).drawn = s.drawn + 4 := by
  simp [cfgUpdate_eq]
@[simp] theorem cfgUpdate_idx (set clr : Byte) (s : State) : (cfgUpdate set clr s).idx = 1 := by simp [cfgUpdate_eq]

end Sys2Proof.Machine
end

