-- ==== Sys2Proof/Laws/Operations.lean ====
section
/-! SUPPORT. Reads from a trusted device, the bodies of the mode operations and the beginning of TRANSMIT, each said once (R141 to R145, R160 to R164). -/

namespace Sys2Proof.Machine

/-! ## Masks -/

/-- Clearing a mask's bit changes that bit alone (R141). -/
theorem mask_clear_bit (v : Byte) (i j : Fin 8) : (v &&& ~~~(bitMask i)).getLsbD j = if j = i then false else v.getLsbD j := by
  revert v i j; decide

/-- Setting a mask's bit changes that bit alone (R141). -/
theorem mask_set_bit (v : Byte) (i j : Fin 8) : (v ||| bitMask i).getLsbD j = if j = i then true else v.getLsbD j := by
  revert v i j; decide

/-- The byte an update that clears a mask writes. -/
theorem cfgWritten_clear (i : Fin 8) (s : State) : cfgWritten 0x00 (bitMask i) s = cfgRead s &&& ~~~(bitMask i) := by
  have h : ∀ v : Byte, v ||| 0 = v := by decide
  rw [cfgWritten, h]

/-- The byte an update that sets a mask writes. -/
theorem cfgWritten_set (i : Fin 8) (s : State) : cfgWritten (bitMask i) 0x00 s = cfgRead s ||| bitMask i := by
  have h : ∀ v : Byte, v &&& ~~~0 = v := by decide
  rw [cfgWritten, h]

/-! ## Time -/

/-- A transaction takes the device-select time twice (R100). -/
@[simp] theorem cmd_now (c : Byte) (out : List Byte) (s : State) : (cmd c out s).now = s.now + 2 * s.cfg.tCsnUs := by
  simp [cmd]; omega

@[simp] theorem regReadBlock_now (a : Byte) (n : Nat) (s : State) : (regReadBlock a n s).now = s.now + 2 * s.cfg.tCsnUs := by
  simp [regReadBlock]

@[simp] theorem regWriteBlock_now (a : Byte) (bs : List Byte) (s : State) :
    (regWriteBlock a bs s).now = s.now + 2 * s.cfg.tCsnUs := by simp [regWriteBlock]

@[simp] theorem cfgUpdate_now (set clr : Byte) (s : State) : (cfgUpdate set clr s).now = s.now + 4 * s.cfg.tCsnUs := by
  simp [cfgUpdate_eq, regWrite, regRead]; omega

/-! ## Reads from a trusted device -/

/-- The data phase of a trusted read returns the register's bytes from `idx` on. -/
theorem xferAll_trusted (c : Byte) (a : BitVec 5) (n k : Nat) (x : Byte) (s : State) (h : decodeBus c = some (.readRegister a))
    (hs : storesBytes a = true) (ht : s.trusts = true) (hk : s.idx.toNat = k) (hw : k + n ≤ (regWidth a).getD 0) (h5 : k + n ≤ 32) :
    (xferAll c (List.replicate n x) s).dataIn = s.dataIn ++ (List.range' k n).map (s.devReg a) := by
  induction n generalizing k s with
  | zero => simp [xferAll]
  | succ n ih =>
    have h7 : a ≠ 0x07 := by rintro rfl; exact absurd hs (by decide)
    have ht' : (takeAnswer s).trusts = true := ht
    have hr : dataReply c (takeAnswer s) s.answer.byte = s.devReg a k := by
      have hlt : k < (regWidth a).getD 0 := by omega
      simp only [dataReply, ht', if_true, h, if_neg h7]
      simp [hs, hk, hlt, State.devReg]
    have hi : (xferData c x s).idx.toNat = k + 1 := by
      rw [xferData_idx, BitVec.toNat_add, hk, show (1 : BitVec 6).toNat = 1 from rfl]; omega
    rw [List.replicate_succ, xferAll, ih (k + 1) (xferData c x s) ht hi (by omega) (by omega), List.range'_succ]
    have hd : (xferData c x s).dataIn = s.dataIn ++ [s.devReg a k] := by rw [← hr]; rfl
    have hm : (xferData c x s).devReg a = s.devReg a := by funext i; simp [State.devReg]
    rw [hd, hm]; simp

/-- A read of a register that keeps what is written returns its bytes, where the device is trusted (R38, R104). -/
theorem regReadBlock_trusted (a : Byte) (n : Nat) (s : State) (hs : storesBytes (a.setWidth 5) = true) (ht : s.trusts = true)
    (hw : n ≤ (regWidth (a.setWidth 5)).getD 0) :
    (regReadBlock a n s).dataIn = (List.range n).map (s.devReg (a.setWidth 5)) := by
  have h5 : n ≤ 32 := by
    have : ∀ b : BitVec 5, (regWidth b).getD 0 ≤ 32 := by decide
    exact hw.trans (this _)
  have ht' : (xferCommand (readByte a) (holdCSN (setCSN false s))).trusts = true := ht
  have h := xferAll_trusted (readByte a) (a.setWidth 5) n 0 s.cfg.fill _ (decodeBus_readByte a) hs ht' (by simp [xferCommand])
    (by omega) (by omega)
  have hm : (xferCommand (readByte a) (holdCSN (setCSN false s))).devReg (a.setWidth 5) = s.devReg (a.setWidth 5) := by
    funext i; simp [State.devReg]
  rw [hm] at h
  rw [regReadBlock, cmd, List.range_eq_range']
  simpa [xferCommand] using h

/-- The byte a configuration update reads is register 0x00, where the device is trusted (R38, R141). -/
theorem cfgRead_trusted (s : State) (ht : s.trusts = true) : cfgRead s = s.devReg 0x00 0 := by
  have h := regReadBlock_trusted 0x00 1 s (by decide) ht (by decide)
  rw [cfgRead, State.readValue, regRead, h]; rfl

/-! ## The mode bodies -/

/-- An update that clears one bit: its events, the shadows, MODE and register 0x00 (R141, R24). -/
theorem cfgUpdate_clear_spec (i : Fin 8) (s : State) :
    (∃ st r : Byte, (cfgUpdate 0x00 (bitMask i) s).trace = s.trace ++ txn 0x00 st [s.cfg.fill] [cfgRead s] ++
      txn 0x20 (cfgUpdate 0x00 (bitMask i) s).statusL [cfgRead s &&& ~~~(bitMask i)] [r]) ∧
    (cfgUpdate 0x00 (bitMask i) s).pwrS = (if s.cfg.powerBit = i then false else (cfgRead s).getLsbD s.cfg.powerBit) ∧
    (cfgUpdate 0x00 (bitMask i) s).rxS = (if s.cfg.rxmodeBit = i then false else (cfgRead s).getLsbD s.cfg.rxmodeBit) ∧
    (cfgUpdate 0x00 (bitMask i) s).modes.map Prod.snd = s.modes.map Prod.snd ++
      [modeOf (cfgUpdate 0x00 (bitMask i) s).pwrS (cfgUpdate 0x00 (bitMask i) s).rxS s.ce] ∧
    (Memory.wf s.dev.regs = true → ∀ c, Memory.read (cfgUpdate 0x00 (bitMask i) s).dev.regs c =
      if c = cellOf 0x00 0 then cfgRead s &&& ~~~(bitMask i) else Memory.read s.dev.regs c) := by
  obtain ⟨h1, h2, h3⟩ := cfgUpdate_shadows 0x00 (bitMask i) s
  have ht := cfgUpdate_trace 0x00 (bitMask i) s
  have hr := cfgUpdate_read 0x00 (bitMask i) s
  simp only [cfgWritten_clear, mask_clear_bit] at h1 h2 h3 ht hr
  exact ⟨ht, h1, h2, by rw [h3, h1, h2], hr⟩

/-- An update that sets one bit, likewise (R141, R24). -/
theorem cfgUpdate_set_spec (i : Fin 8) (s : State) :
    (∃ st r : Byte, (cfgUpdate (bitMask i) 0x00 s).trace = s.trace ++ txn 0x00 st [s.cfg.fill] [cfgRead s] ++
      txn 0x20 (cfgUpdate (bitMask i) 0x00 s).statusL [cfgRead s ||| bitMask i] [r]) ∧
    (cfgUpdate (bitMask i) 0x00 s).pwrS = (if s.cfg.powerBit = i then true else (cfgRead s).getLsbD s.cfg.powerBit) ∧
    (cfgUpdate (bitMask i) 0x00 s).rxS = (if s.cfg.rxmodeBit = i then true else (cfgRead s).getLsbD s.cfg.rxmodeBit) ∧
    (cfgUpdate (bitMask i) 0x00 s).modes.map Prod.snd = s.modes.map Prod.snd ++
      [modeOf (cfgUpdate (bitMask i) 0x00 s).pwrS (cfgUpdate (bitMask i) 0x00 s).rxS s.ce] ∧
    (Memory.wf s.dev.regs = true → ∀ c, Memory.read (cfgUpdate (bitMask i) 0x00 s).dev.regs c =
      if c = cellOf 0x00 0 then cfgRead s ||| bitMask i else Memory.read s.dev.regs c) := by
  obtain ⟨h1, h2, h3⟩ := cfgUpdate_shadows (bitMask i) 0x00 s
  have ht := cfgUpdate_trace (bitMask i) 0x00 s
  have hr := cfgUpdate_read (bitMask i) 0x00 s
  simp only [cfgWritten_set, mask_set_bit] at h1 h2 h3 ht hr
  exact ⟨ht, h1, h2, by rw [h3, h1, h2], hr⟩

/-- A write of `CE` records its event and MODE (R131, R25). -/
theorem setCE_spec (b : Bool) (s : State) :
    (setCE b s).trace = s.trace ++ [if b then .ce1 else .ce0] ∧
      (setCE b s).modes.map Prod.snd = s.modes.map Prod.snd ++ [modeOf s.pwrS s.rxS b] := by
  simp [setCE, noteMode, State.mode]

/-- `TxModeBody` (R142). -/
theorem txModeBody_spec (s : State) (h : s.cfg.rxmodeBit ≠ s.cfg.powerBit) :
    (∃ st r : Byte, (txModeBody s).trace = s.trace ++ txn 0x00 st [s.cfg.fill] [cfgRead s] ++
      txn 0x20 (txModeBody s).statusL [cfgRead s &&& ~~~(rxMask s.cfg)] [r] ++ [.ce0, .w s.cfg.tSettleTxUs]) ∧
    (txModeBody s).pwrS = (cfgRead s).getLsbD s.cfg.powerBit ∧ (txModeBody s).rxS = false ∧ (txModeBody s).ce = false ∧
    (txModeBody s).csn = true ∧
    (txModeBody s).modes.map Prod.snd = s.modes.map Prod.snd ++
      [modeOf ((cfgRead s).getLsbD s.cfg.powerBit) false s.ce, modeOf ((cfgRead s).getLsbD s.cfg.powerBit) false false] ∧
    (txModeBody s).drawn = s.drawn + 4 ∧ (txModeBody s).ticks = s.ticks + 1 ∧
    (txModeBody s).now = s.now + 4 * s.cfg.tCsnUs + s.cfg.tSettleTxUs + s.delay ∧
    (Memory.wf s.dev.regs = true → Memory.wf (txModeBody s).dev.regs = true ∧
      ∀ c, Memory.read (txModeBody s).dev.regs c =
        if c = cellOf 0x00 0 then cfgRead s &&& ~~~(rxMask s.cfg) else Memory.read s.dev.regs c) := by
  obtain ⟨⟨st, r, ht⟩, h1, h2, h3, hr⟩ := cfgUpdate_clear_spec s.cfg.rxmodeBit s
  have hw := cfgUpdate_wf 0x00 (bitMask s.cfg.rxmodeBit) s
  have hd := cfgUpdate_drawn 0x00 (bitMask s.cfg.rxmodeBit) s
  have hn := cfgUpdate_now 0x00 (bitMask s.cfg.rxmodeBit) s
  have hf := cfgUpdate_frame 0x00 (bitMask s.cfg.rxmodeBit) s
  have hc := cfgUpdate_csn 0x00 (bitMask s.cfg.rxmodeBit) s
  rw [if_neg (Ne.symm h)] at h1
  rw [if_pos rfl] at h2
  rw [h1, h2] at h3
  unfold txModeBody rxMask
  generalize cfgUpdate 0x00 (bitMask s.cfg.rxmodeBit) s = u at *
  refine ⟨⟨st, r, by simp [ht]⟩, ?_⟩
  simp [h1, h2, h3, setCE_spec, hf, hc, hd, hn, State.delay]
  exact fun hm => ⟨hw hm, hr hm⟩

/-- `RxModeBody` (R143). -/
theorem rxModeBody_spec (s : State) (h : s.cfg.rxmodeBit ≠ s.cfg.powerBit) :
    (∃ st r : Byte, (rxModeBody s).trace = s.trace ++ txn 0x00 st [s.cfg.fill] [cfgRead s] ++
      txn 0x20 (rxModeBody s).statusL [cfgRead s ||| rxMask s.cfg] [r] ++ [.ce1, .w s.cfg.tSettleRxUs]) ∧
    (rxModeBody s).pwrS = (cfgRead s).getLsbD s.cfg.powerBit ∧ (rxModeBody s).rxS = true ∧ (rxModeBody s).ce = true ∧
    (rxModeBody s).csn = true ∧
    (rxModeBody s).modes.map Prod.snd = s.modes.map Prod.snd ++
      [modeOf ((cfgRead s).getLsbD s.cfg.powerBit) true s.ce, modeOf ((cfgRead s).getLsbD s.cfg.powerBit) true true] ∧
    (rxModeBody s).drawn = s.drawn + 4 ∧ (rxModeBody s).ticks = s.ticks + 1 ∧
    (rxModeBody s).now = s.now + 4 * s.cfg.tCsnUs + s.cfg.tSettleRxUs + s.delay ∧
    (Memory.wf s.dev.regs = true → Memory.wf (rxModeBody s).dev.regs = true ∧
      ∀ c, Memory.read (rxModeBody s).dev.regs c =
        if c = cellOf 0x00 0 then cfgRead s ||| rxMask s.cfg else Memory.read s.dev.regs c) := by
  obtain ⟨⟨st, r, ht⟩, h1, h2, h3, hr⟩ := cfgUpdate_set_spec s.cfg.rxmodeBit s
  have hw := cfgUpdate_wf (bitMask s.cfg.rxmodeBit) 0x00 s
  have hd := cfgUpdate_drawn (bitMask s.cfg.rxmodeBit) 0x00 s
  have hn := cfgUpdate_now (bitMask s.cfg.rxmodeBit) 0x00 s
  have hf := cfgUpdate_frame (bitMask s.cfg.rxmodeBit) 0x00 s
  have hc := cfgUpdate_csn (bitMask s.cfg.rxmodeBit) 0x00 s
  rw [if_neg (Ne.symm h)] at h1
  rw [if_pos rfl] at h2
  rw [h1, h2] at h3
  unfold rxModeBody rxMask
  generalize cfgUpdate (bitMask s.cfg.rxmodeBit) 0x00 s = u at *
  refine ⟨⟨st, r, by simp [ht]⟩, ?_⟩
  simp [h1, h2, h3, setCE_spec, hf, hc, hd, hn, State.delay]
  exact fun hm => ⟨hw hm, hr hm⟩

/-- `PowerUpBody` (R144). -/
theorem powerUpBody_spec (s : State) (h : s.cfg.rxmodeBit ≠ s.cfg.powerBit) :
    (∃ st r : Byte, (powerUpBody s).trace = s.trace ++ txn 0x00 st [s.cfg.fill] [cfgRead s] ++
      txn 0x20 (powerUpBody s).statusL [cfgRead s ||| pwrMask s.cfg] [r] ++ [.w s.cfg.tPwrupUs]) ∧
    (powerUpBody s).pwrS = true ∧ (powerUpBody s).rxS = (cfgRead s).getLsbD s.cfg.rxmodeBit ∧ (powerUpBody s).ce = s.ce ∧
    (powerUpBody s).csn = true ∧
    (powerUpBody s).modes.map Prod.snd = s.modes.map Prod.snd ++ [modeOf true ((cfgRead s).getLsbD s.cfg.rxmodeBit) s.ce] ∧
    (powerUpBody s).drawn = s.drawn + 4 ∧ (powerUpBody s).ticks = s.ticks + 1 ∧
    (powerUpBody s).now = s.now + 4 * s.cfg.tCsnUs + s.cfg.tPwrupUs + s.delay ∧
    (Memory.wf s.dev.regs = true → Memory.wf (powerUpBody s).dev.regs = true ∧
      ∀ c, Memory.read (powerUpBody s).dev.regs c =
        if c = cellOf 0x00 0 then cfgRead s ||| pwrMask s.cfg else Memory.read s.dev.regs c) := by
  obtain ⟨⟨st, r, ht⟩, h1, h2, h3, hr⟩ := cfgUpdate_set_spec s.cfg.powerBit s
  have hw := cfgUpdate_wf (bitMask s.cfg.powerBit) 0x00 s
  have hd := cfgUpdate_drawn (bitMask s.cfg.powerBit) 0x00 s
  have hn := cfgUpdate_now (bitMask s.cfg.powerBit) 0x00 s
  have hf := cfgUpdate_frame (bitMask s.cfg.powerBit) 0x00 s
  have hc := cfgUpdate_csn (bitMask s.cfg.powerBit) 0x00 s
  rw [if_neg h] at h2
  rw [if_pos rfl] at h1
  rw [h1, h2] at h3
  unfold powerUpBody pwrMask
  generalize cfgUpdate (bitMask s.cfg.powerBit) 0x00 s = u at *
  refine ⟨⟨st, r, by simp [ht]⟩, ?_⟩
  simp [h1, h2, h3, hf, hc, hd, hn, State.delay]
  exact fun hm => ⟨hw hm, hr hm⟩

/-- POWER_DOWN's body (R145). -/
theorem powerDownBody_spec (s : State) (h : s.cfg.rxmodeBit ≠ s.cfg.powerBit) :
    (∃ st r : Byte, (powerDownBody s).trace = s.trace ++ txn 0x00 st [s.cfg.fill] [cfgRead s] ++
      txn 0x20 (powerDownBody s).statusL [cfgRead s &&& ~~~(pwrMask s.cfg)] [r]) ∧
    (powerDownBody s).pwrS = false ∧ (powerDownBody s).rxS = (cfgRead s).getLsbD s.cfg.rxmodeBit ∧ (powerDownBody s).ce = s.ce ∧
    (powerDownBody s).csn = true ∧
    (powerDownBody s).modes.map Prod.snd = s.modes.map Prod.snd ++ [modeOf false ((cfgRead s).getLsbD s.cfg.rxmodeBit) s.ce] ∧
    (powerDownBody s).drawn = s.drawn + 4 ∧ (powerDownBody s).ticks = s.ticks ∧
    (powerDownBody s).now = s.now + 4 * s.cfg.tCsnUs ∧
    (Memory.wf s.dev.regs = true → Memory.wf (powerDownBody s).dev.regs = true) ∧
    (s.conforming = true → Memory.wf s.dev.regs = true → ∀ c, Memory.read (powerDownBody s).dev.regs c =
        if c = cellOf 0x00 0 then cfgRead s &&& ~~~(pwrMask s.cfg) else Memory.read s.dev.regs c) := by
  obtain ⟨ht, h1, h2, h3, hr⟩ := cfgUpdate_clear_spec s.cfg.powerBit s
  rw [if_neg h] at h2
  rw [if_pos rfl] at h1
  rw [h1, h2] at h3
  unfold powerDownBody pwrMask
  refine ⟨by simpa using ht, by simpa using h1, by simpa using h2, by simp, by simp, by simpa using h3, by simp, by simp, by simp,
    fun hm => ?_, fun hc hm => by simpa [hc] using hr hm⟩
  have hw := cfgUpdate_wf 0x00 (bitMask s.cfg.powerBit) s hm
  by_cases hc : s.conforming = true
  · simpa [hc] using hw
  · simp [hc]

/-- A code has no unmet precondition exactly when its preconditions hold (R236, R239). -/
theorem unmet_eq_none (c : Code) (s : State) : unmet c s = none ↔ s.Allows c := by
  unfold unmet State.Allows
  cases needsInit c <;> cases needsWidth c <;> cases s.inited <;> cases s.widthAgrees <;> simp

/-- A host operation ends, whatever its body. -/
theorem hostOperation_next (op : HostOp) (body : State → State) (s : State) :
    hostOperation op body s = .next (keepDeviceIf (s.inited || decide (op = .init)) (body (accept op s))) := rfl

/-- After INIT a host operation leaves the device as its body does. -/
theorem hostOperation_inited (op : HostOp) (body : State → State) (s : State) (h : s.inited = true) :
    hostOperation op body s = .next (body (accept op s)) := by
  simp [hostOperation, h, keepDeviceIf]

/-! ## The poll loop -/

/-- One pass of the poll loop (R164). -/
theorem pollLoop_succ (k : Nat) (s : State) :
    pollLoop (k + 1) s =
      if (readNow s).deadlinePassed then timeoutExit (readNow s)
      else if dataSentBit s.cfg (statusQuery (readNow s)).statusL then successExit (statusQuery (readNow s))
      else if maxRtBit s.cfg (statusQuery (readNow s)).statusL then maxRtExit (statusQuery (readNow s))
      else pollLoop k (wait s.cfg.tPollUs (statusQuery (readNow s))) := by
  rw [pollLoop]; simp

/-- How the loop can end after passes whose status bytes are `quiet`, the events of its end, and what `STATUS_L` then holds: success,
max retransmits, or the deadline (R165 to R167). -/
inductive PollEnd (k elapsed : Nat) (s t : State) (quiet : List Byte) : List Event → Prop where
  | success (stQ stC rC : Byte) (h5 : dataSentBit s.cfg stQ = true) (hr : t.result = true) (hs : t.statusL = stC)
      (hn : quiet.length + 1 ≤ k) :
      PollEnd k elapsed s t quiet (.t :: txn 0xFF stQ [] [] ++ txn 0x27 stC [s.cfg.clrDs] [rC])
  | maxRt (stQ stC rC stE : Byte) (h5 : dataSentBit s.cfg stQ = false) (h4 : maxRtBit s.cfg stQ = true) (hr : t.result = false)
      (hs : t.statusL = stE) (hn : quiet.length + 1 ≤ k) :
      PollEnd k elapsed s t quiet (.t :: txn 0xFF stQ [] [] ++ txn 0x27 stC [s.cfg.clrMr] [rC] ++ txn 0xE1 stE [] [])
  | timeout (hr : t.result = false) (hs : t.statusL = quiet.getLastD s.statusL)
      (hd : s.cfg.tTimeoutUs ≤ t.now - s.t0 ∨ s.t0 + elapsed + k * s.cfg.tPollUs ≤ t.now) (hn : quiet.length ≤ k) :
      PollEnd k elapsed s t quiet [.t]

/-- Everything the poll loop does at the port (R164 to R167): passes that show neither flag, then one of its ends. -/
theorem pollLoop_spec (k : Nat) (s : State) (elapsed : Nat) (h : s.t0 + elapsed ≤ s.now) :
    ∃ (quiet : List Byte) (last : List Event),
      (pollLoop k s).trace = s.trace ++ (quiet.map (passEvents s.cfg.tPollUs)).flatten ++ last ∧
      (∀ q ∈ quiet, dataSentBit s.cfg q = false ∧ maxRtBit s.cfg q = false) ∧
      PollEnd k elapsed s (pollLoop k s) quiet last := by
  induction k generalizing s elapsed with
  | zero =>
    refine ⟨[], [.t], by simp [pollLoop, timeoutExit], by simp, .timeout rfl rfl (.inr ?_) (Nat.le_refl 0)⟩
    simp [pollLoop, timeoutExit]; omega
  | succ k ih =>
    rw [pollLoop_succ]
    split
    · rename_i hd
      exact ⟨[], [.t], by simp [timeoutExit], by simp,
        .timeout rfl rfl (.inl (by simpa [State.deadlinePassed, timeoutExit] using of_decide_eq_true hd)) (by simp)⟩
    · have hq : (statusQuery (readNow s)).trace = s.trace ++ [.t] ++ txn 0xFF (statusQuery (readNow s)).statusL [] [] := by
        rw [statusQuery_trace]; simp
      have hf := statusQuery_frame (readNow s)
      have hn : (statusQuery (readNow s)).now = s.now + s.delay + 2 * s.cfg.tCsnUs := by simp [statusQuery]
      generalize statusQuery (readNow s) = q at *
      simp only [readNow_cfg, readNow_t0] at hf
      have hcfg : q.cfg = s.cfg := by simp [hf]
      split
      · rename_i h5
        obtain ⟨r, hr⟩ := clearFlags_spec q.cfg.clrDs q
        rw [hcfg] at hr
        exact ⟨[], _, by simp [successExit, hcfg, hr, hq], by simp, .success q.statusL _ r h5 rfl rfl (by simp)⟩
      · split
        · rename_i h5 h4
          obtain ⟨r, hr⟩ := clearFlags_spec q.cfg.clrMr q
          rw [hcfg] at hr
          exact ⟨[], _, by simp [maxRtExit, flushTxFifo_trace, hcfg, hr, hq]; rfl, by simp,
            .maxRt q.statusL _ r _ (by simpa using h5) h4 rfl rfl (by simp)⟩
        · rename_i h5 h4
          have ht0 : q.t0 = s.t0 := by simp [hf]
          have hc : (wait s.cfg.tPollUs q).cfg = s.cfg := by simp [hcfg]
          have ht : (wait s.cfg.tPollUs q).t0 = s.t0 := by simp [ht0]
          obtain ⟨qs, l, e1, e2, e3⟩ := ih (wait s.cfg.tPollUs q) (elapsed + s.cfg.tPollUs) (by simp [ht0, hn]; omega)
          rw [hc] at e1 e2
          refine ⟨q.statusL :: qs, l, by simp [e1, hq, passEvents], ?_, ?_⟩
          · simp only [List.mem_cons, forall_eq_or_imp]
            exact ⟨⟨by simpa using h5, by simpa using h4⟩, e2⟩
          · generalize pollLoop k (wait s.cfg.tPollUs q) = u at *
            cases e3 with
            | success a b c h5 hr hs hn => rw [hc] at h5 ⊢; exact .success a b c h5 hr hs (by simp; omega)
            | maxRt a b c d h5 h4 hr hs hn => rw [hc] at h5 h4 ⊢; exact .maxRt a b c d h5 h4 hr hs (by simp; omega)
            | timeout hr hs hd hn =>
              rw [hc, ht] at hd
              refine .timeout hr (by rw [List.getLastD_cons]; exact hs) (hd.imp_right fun hd => ?_) (by simp; omega)
              rw [Nat.succ_mul]; omega

/-! ## The beginning of TRANSMIT -/

/-- The events of `TxModeBody`, whatever the bit indices (R142). -/
theorem txModeBody_trace (s : State) :
    ∃ st st' r : Byte, (txModeBody s).trace = s.trace ++ txn 0x00 st [s.cfg.fill] [cfgRead s] ++
      txn 0x20 st' [cfgRead s &&& ~~~(rxMask s.cfg)] [r] ++ [.ce0, .w s.cfg.tSettleTxUs] := by
  obtain ⟨⟨st, r, ht⟩, _⟩ := cfgUpdate_clear_spec s.cfg.rxmodeBit s
  unfold txModeBody rxMask
  generalize cfgUpdate 0x00 (bitMask s.cfg.rxmodeBit) s = u at *
  exact ⟨st, u.statusL, r, by simp [ht]⟩

/-- The events before the first deadline test (R160 to R164). -/
theorem loadAndFire_trace (arg : Byte) (s : State) :
    ∃ (st st' r stF stL : Byte) (ins : List Byte),
      ins.length = (framedPayload s.hdata (transmitLen arg s.payloadSize) s.payloadSize).length ∧ (loadAndFire arg s).trace = s.trace ++
      txn 0x00 st [s.cfg.fill] [cfgRead s] ++ txn 0x20 st' [cfgRead s &&& ~~~(rxMask s.cfg)] [r] ++ [.ce0, .w s.cfg.tSettleTxUs] ++
      txn 0xE1 stF [] [] ++ txn 0xA0 stL (framedPayload s.hdata (transmitLen arg s.payloadSize) s.payloadSize) ins ++
      [.ce1, .w s.cfg.tCePulseUs, .ce0, .t] := by
  obtain ⟨st, st', r, h⟩ := txModeBody_trace s
  obtain ⟨ins, hi, _, hl, _⟩ := cmd_spec 0xA0 (framedPayload s.hdata (transmitLen arg s.payloadSize) s.payloadSize)
    (flushTxFifo (txModeBody s))
  have e : (loadAndFire arg s).trace = (cmd 0xA0 (framedPayload s.hdata (transmitLen arg s.payloadSize) s.payloadSize)
      (flushTxFifo (txModeBody s))).trace ++ [.ce1, .w s.cfg.tCePulseUs, .ce0, .t] := by
    simp [loadAndFire, pulseCE, startTimer]
  refine ⟨st, st', r, (flushTxFifo (txModeBody s)).statusL, (cmd 0xA0 (framedPayload s.hdata (transmitLen arg s.payloadSize)
    s.payloadSize) (flushTxFifo (txModeBody s))).statusL, ins, hi, ?_⟩
  rw [e, hl, flushTxFifo_trace, h]

/-- The timer starts at the time then read (R164). -/
@[simp] theorem loadAndFire_t0 (arg : Byte) (s : State) : (loadAndFire arg s).t0 = (loadAndFire arg s).now := rfl

end Sys2Proof.Machine
end

