-- ==== Sys2Proof/Laws/PerInstr.lean ====
section
/-! SUPPORT. Per instruction: its code matches its row of spec/opcode_table.json, format, mask and match, whatever its operands. -/

namespace Sys2Proof.Laws

/-- A row of the opcode table: the format, the mask of the fixed bits and their values. -/
structure Row where
  bus : Bool
  mask : Nat
  value : Nat
  deriving DecidableEq, Repr

/-- Whether a code is of a row's format and has its fixed bits. -/
def Row.admits (r : Row) : Code → Bool
  | .bus b => r.bus && (b &&& BitVec.ofNat 8 r.mask) == BitVec.ofNat 8 r.value
  | .host w => !r.bus && (w &&& BitVec.ofNat 12 r.mask) == BitVec.ofNat 12 r.value

/-- The row of the opcode table each instruction belongs to. -/
def rowOf : Instr → Row
  | .readRegister _ => ⟨true, 0xE0, 0x00⟩
  | .writeRegister _ => ⟨true, 0xE0, 0x20⟩
  | .readRxPayload => ⟨true, 0xFF, 0x61⟩
  | .writeTxPayload => ⟨true, 0xFF, 0xA0⟩
  | .flushTx => ⟨true, 0xFF, 0xE1⟩
  | .flushRx => ⟨true, 0xFF, 0xE2⟩
  | .reuseTxPayload => ⟨true, 0xFF, 0xE3⟩
  | .nop => ⟨true, 0xFF, 0xFF⟩
  | .init _ => ⟨false, 0xF00, 0x000⟩
  | .setTxMode _ => ⟨false, 0xF00, 0x100⟩
  | .setRxMode _ => ⟨false, 0xF00, 0x200⟩
  | .transmit _ => ⟨false, 0xF00, 0x300⟩
  | .receive _ => ⟨false, 0xF00, 0x400⟩
  | .setChannel _ => ⟨false, 0xF00, 0x500⟩
  | .setPayloadSize _ => ⟨false, 0xF00, 0x600⟩
  | .setAddress _ => ⟨false, 0xF00, 0x700⟩
  | .getStatus _ => ⟨false, 0xF00, 0x800⟩
  | .powerUp _ => ⟨false, 0xF00, 0x900⟩
  | .powerDown _ => ⟨false, 0xF00, 0xA00⟩

/-- The instruction's code matches its row. -/
def TableMatch.Statement (i : Instr) : Prop := (rowOf i).admits (encode i) = true

theorem TableMatch.readRegister (addr : Byte) : TableMatch.Statement (.readRegister addr) := by revert addr; unfold Statement; decide
theorem TableMatch.writeRegister (addr : Byte) : TableMatch.Statement (.writeRegister addr) := by revert addr; unfold Statement; decide
theorem TableMatch.readRxPayload : TableMatch.Statement .readRxPayload := by unfold Statement; decide
theorem TableMatch.writeTxPayload : TableMatch.Statement .writeTxPayload := by unfold Statement; decide
theorem TableMatch.flushTx : TableMatch.Statement .flushTx := by unfold Statement; decide
theorem TableMatch.flushRx : TableMatch.Statement .flushRx := by unfold Statement; decide
theorem TableMatch.reuseTxPayload : TableMatch.Statement .reuseTxPayload := by unfold Statement; decide
theorem TableMatch.nop : TableMatch.Statement .nop := by unfold Statement; decide
theorem TableMatch.init (arg : Byte) : TableMatch.Statement (.init arg) := by revert arg; unfold Statement; decide
theorem TableMatch.setTxMode (arg : Byte) : TableMatch.Statement (.setTxMode arg) := by revert arg; unfold Statement; decide
theorem TableMatch.setRxMode (arg : Byte) : TableMatch.Statement (.setRxMode arg) := by revert arg; unfold Statement; decide
theorem TableMatch.transmit (arg : Byte) : TableMatch.Statement (.transmit arg) := by revert arg; unfold Statement; decide
theorem TableMatch.receive (arg : Byte) : TableMatch.Statement (.receive arg) := by revert arg; unfold Statement; decide
theorem TableMatch.setChannel (arg : Byte) : TableMatch.Statement (.setChannel arg) := by revert arg; unfold Statement; decide
theorem TableMatch.setPayloadSize (arg : Byte) : TableMatch.Statement (.setPayloadSize arg) := by revert arg; unfold Statement; decide
theorem TableMatch.setAddress (arg : Byte) : TableMatch.Statement (.setAddress arg) := by revert arg; unfold Statement; decide
theorem TableMatch.getStatus (arg : Byte) : TableMatch.Statement (.getStatus arg) := by revert arg; unfold Statement; decide
theorem TableMatch.powerUp (arg : Byte) : TableMatch.Statement (.powerUp arg) := by revert arg; unfold Statement; decide
theorem TableMatch.powerDown (arg : Byte) : TableMatch.Statement (.powerDown arg) := by revert arg; unfold Statement; decide

end Sys2Proof.Laws
end

