-- ==== Sys2Proof/Tests/Slice0.lean ====
section
/-! SUPPORT. Tests on single steps, their expected values from spec/95_test_vectors.md (V<n>, P<n>) or worked by hand from the
rule cited, and a witness for the hypotheses of each statement. -/

namespace Sys2Proof.Machine

/-! ## Helpers -/

/-- The device answers `b`, and its radio does nothing. -/
def Test.replies (b : Byte) : DevAnswer := { byte := b, radio := Radio.quiet }

/-- A configuration with the vectors' poll interval. -/
def Test.cfg : Config := { Config.default with tPollUs := 1000 }

/-- The device answers `b` after its radio set the flags whose bits are set in `st`. -/
def Test.replyAfter (b st : Byte) : DevAnswer where
  byte := b
  radio := { Radio.quiet with set := { dataReady := dataReadyBit Test.cfg st, dataSent := dataSentBit Test.cfg st, maxRt := maxRtBit Test.cfg st } }

/-- After INIT, `payload_size` 4, the device in step: 0x0A in register 0x00 and 4 in 0x11; status bytes 0x0E; the zero-time bus. -/
def Test.base : State where
  payloadSize := 4
  statusL := 0
  result := false
  rbyte := 0
  rxlen := 9
  rxbuf := Vector.replicate 32 0x55
  ce := false
  csn := true
  busy := false
  inited := true
  pwrS := true
  rxS := false
  seq := .idle
  idx := 0
  t0 := 0
  hdata := Vector.ofFn (fun i => if i.val = 0 then 0x11 else if i.val = 1 then 0x22 else BitVec.ofNat 8 (0xC0 + i.val))
  callLen := 1
  dataIn := []
  host := []
  cfg := Test.cfg
  dev := { regs := [(0, 0x0A), (544, 4)], flags := { dataReady := false, dataSent := false, maxRt := false }, txFifo := [], rxFifo := [] }
  conforming := true
  answers := List.replicate 40 (Test.replies 0x0E)
  drawn := 0
  now := 0
  delays := List.replicate 10 0
  ticks := 0
  trace := []
  modes := []

/-- The base state with the device an oracle. -/
def Test.oracle : State := { Test.base with conforming := false }

/-- The base state with stale flags, FIFOs and registers in the device. -/
def Test.dirty : State :=
  { Test.base with dev := { regs := [(0, 0x0B)], flags := ⟨true, true, false⟩, txFifo := [[1]], rxFifo := [[2]] } }

/-- The base state with a code presented. -/
def Test.presenting (c : Code) : State := { Test.base with host := [.present c 1 Test.base.hdata] }

/-- The state an outcome leads to. -/
def Test.after (o : Host.Outcome State Fault Refusal) : Option State :=
  match o with
  | .next t => some t
  | .fault _ => none
  | .refused _ => none

open Test

/-! ## Well-formedness and decoding -/

theorem test_illformed_read_refused : (Instr.readRegister 0x20).wellFormed = false := by decide
theorem test_illformed_write_refused : (Instr.writeRegister 0xE7).wellFormed = false := by decide
theorem test_wellformed_highest_address : (Instr.readRegister 0x1F).wellFormed = true := by decide

-- Words written out from the encodings of R81, R82 (op in bits 11:8, arg in bits 7:0) and R85, R86.
theorem test_decode_read_register : decode (.bus 0b00000101) = .ok (.readRegister 0x05) := rfl
theorem test_decode_write_register : decode (.bus 0b00111111) = .ok (.writeRegister 0x1F) := rfl
theorem test_decode_read_rx_payload : decode (.bus 0b01100001) = .ok .readRxPayload := rfl
theorem test_decode_write_tx_payload : decode (.bus 0b10100000) = .ok .writeTxPayload := rfl
theorem test_decode_flush_tx : decode (.bus 0b11100001) = .ok .flushTx := rfl
theorem test_decode_flush_rx : decode (.bus 0b11100010) = .ok .flushRx := rfl
theorem test_decode_reuse_tx_payload : decode (.bus 0b11100011) = .ok .reuseTxPayload := rfl
theorem test_decode_nop : decode (.bus 0b11111111) = .ok .nop := rfl
theorem test_decode_init : decode (.host 0b000000000000) = .ok (.init 0x00) := rfl
theorem test_decode_set_tx_mode : decode (.host 0b000110100101) = .ok (.setTxMode 0xA5) := rfl
theorem test_decode_set_rx_mode : decode (.host 0b001000000001) = .ok (.setRxMode 0x01) := rfl
theorem test_decode_transmit : decode (.host 0b001111001000) = .ok (.transmit 200) := rfl
theorem test_decode_receive : decode (.host 0b010000000000) = .ok (.receive 0x00) := rfl
theorem test_decode_set_channel : decode (.host 0b010101111110) = .ok (.setChannel 126) := rfl
theorem test_decode_set_payload_size : decode (.host 0b011000100001) = .ok (.setPayloadSize 33) := rfl
theorem test_decode_set_address : decode (.host 0b011100000000) = .ok (.setAddress 0x00) := rfl
theorem test_decode_get_status : decode (.host 0b100000000000) = .ok (.getStatus 0x00) := rfl
theorem test_decode_power_up : decode (.host 0b100110000000) = .ok (.powerUp 0x80) := rfl
theorem test_decode_power_down : decode (.host 0b101000000000) = .ok (.powerDown 0x00) := rfl

-- V48, R84, R88: what is no instruction.
theorem test_reserved_word : decode (.host 0xB00) = .error (.reservedHostCode 0xB00) := rfl
theorem test_unlisted_activate_byte : decode (.bus 0x50) = .error (.unlistedCommand 0x50) := rfl
theorem test_table_word_read : decodeTableWord 8 0x05 = some (.readRegister 0x05) := by decide
theorem test_table_word_host : decodeTableWord 16 0x54C = some (.setChannel 76) := by decide
theorem test_table_word_reserved : decodeTableWord 16 0xB00 = none := by decide

-- V1 to V6.
theorem test_command_bytes : [readByte 0x00, readByte 0x1F, readByte 0x20, readByte 0xE7, writeByte 0x07, writeByte 0xFF] =
    [0x00, 0x1F, 0x00, 0x07, 0x27, 0x3F] := by decide

/-! ## Bus commands -/

-- V7, with the device an oracle that answers 0x0E and then 0x4C.
theorem test_read_register : (after (exec (.readRegister 0x05) { oracle with answers := [replies 0x0E, replies 0x4C] })).map
    (fun t => (t.trace, t.dataIn, t.statusL)) = some ([.sel, .x 0x05 0x0E, .x 0xFF 0x4C, .desel], [0x4C], 0x0E) := by decide

-- V9.
theorem test_read_no_bytes : (after (exec (.readRegister 0x0A) { base with callLen := 0 })).map (fun t => (t.trace, t.dataIn)) =
    some ([.sel, .x 0x0A 0x0E, .desel], []) := by decide

-- V8.
theorem test_write_shadows : (after (exec (.writeRegister 0x00) { base with hdata := Vector.replicate 32 0x0B })).map
    (fun t => (t.trace.take 2, t.pwrS, t.rxS, t.devReg 0x00 0)) = some ([.sel, .x 0x20 0x0E], true, true, 0x0B) := by decide

-- R37: bits 6 and 4 clear their flags, bit 5 is 0 and leaves its own.
theorem test_write_status_clears : (after (exec (.writeRegister 0x07)
    { base with hdata := Vector.replicate 32 0x50, dev := { base.dev with flags := ⟨true, true, true⟩ } })).map
    (fun t => t.dev.flags) = some ⟨false, true, false⟩ := by decide

-- V32's read: exactly `payload_size` exchanges.
theorem test_read_rx_payload : (after (exec .readRxPayload
    { base with dev := { base.dev with rxFifo := [[0xDE, 0xAD, 0x00, 0x00]] } })).map (fun t => (t.dataIn, t.trace.length)) =
    some ([0xDE, 0xAD, 0x00, 0x00], 7) := by decide

-- V21's load.
theorem test_write_tx_payload : (after (exec .writeTxPayload { base with callLen := 2 })).map
    (fun t => (t.dev.txFifo, t.trace)) = some ([[0x11, 0x22, 0x00, 0x00]],
      [.sel, .x 0xA0 0x0E, .x 0x11 0x0E, .x 0x22 0x0E, .x 0x00 0x0E, .x 0x00 0x0E, .desel]) := by decide

theorem test_flush_tx : (after (exec .flushTx { base with dev := { base.dev with txFifo := [[1]], rxFifo := [[2]] } })).map
    (fun t => (t.dev.txFifo, t.dev.rxFifo, t.trace)) = some ([], [[2]], [.sel, .x 0xE1 0x0E, .desel]) := by decide

theorem test_flush_rx : (after (exec .flushRx { base with dev := { base.dev with txFifo := [[1]], rxFifo := [[2]] } })).map
    (fun t => (t.dev.txFifo, t.dev.rxFifo, t.trace)) = some ([[1]], [], [.sel, .x 0xE2 0x0E, .desel]) := by decide

-- R112: only the frame is fixed.
theorem test_reuse_tx_payload : (after (exec .reuseTxPayload base)).map (fun t => t.trace) = some [.sel, .x 0xE3 0x0E, .desel] := by decide

-- V12.
theorem test_nop : (after (exec .nop { base with dev := { base.dev with flags := ⟨true, true, true⟩ } })).map
    (fun t => (t.trace, t.statusL, t.dev.flags)) = some ([.sel, .x 0xFF 0x7E, .desel], 0x7E, ⟨true, true, true⟩) := by decide

/-! ## Modes -/

-- V13.
theorem test_set_tx_mode : (after (exec (.setTxMode 0) { base with ce := true, rxS := true, dev := { base.dev with regs := [(0, 0x0B)] } })).map
    (fun t => (t.trace, t.mode, t.ce)) = some ([.sel, .x 0x00 0x0E, .x 0xFF 0x0B, .desel, .sel, .x 0x20 0x0E, .x 0x0A 0x0E, .desel,
      .ce0, .w 1000], .standbyTxConfigured, false) := by decide

-- P5 operation 3, R243: for an instant the mode is the transmit one.
theorem test_set_tx_mode_glitch : (after (exec (.setTxMode 0)
    { base with ce := true, rxS := true, dev := { base.dev with regs := [(0, 0x0B)] } })).map (fun t => t.modes.map Prod.snd) =
    some [.activeTx, .standbyTxConfigured] := by decide

-- V17: power down although CE = 1.
theorem test_set_rx_mode : (after (exec (.setRxMode 0) { base with pwrS := false, dev := { base.dev with regs := [] } })).map
    (fun t => (t.trace, t.mode, t.ce, t.devReg 0x00 0)) = some ([.sel, .x 0x00 0x0E, .x 0xFF 0x08, .desel, .sel, .x 0x20 0x0E,
      .x 0x09 0x0E, .desel, .ce1, .w 1000], .powerDown, true, 0x09) := by decide

-- V19: straight back to listening.
theorem test_power_up : (after (exec (.powerUp 0) { base with ce := true, pwrS := false, dev := { base.dev with regs := [(0, 0x09)] } })).map
    (fun t => (t.trace.drop 5, t.mode, t.now)) = some ([.x 0x20 0x0E, .x 0x0B 0x0E, .desel, .w 5000], .activeRx, 5000) := by decide

-- V20: no wait, CE unchanged.
theorem test_power_down : (after (exec (.powerDown 0) { base with ce := true, rxS := true, dev := { base.dev with regs := [(0, 0x0B)] } })).map
    (fun t => (t.trace.drop 5, t.mode, t.ce, t.rxS)) = some ([.x 0x20 0x0E, .x 0x09 0x0E, .desel], .powerDown, true, true) := by decide

-- P1: with a device that has stale flags and FIFOs, INIT's end.
theorem test_init : (after (exec (.init 0) { dirty with inited := false, payloadSize := 32 })).map
    (fun t => t.trace.drop 45) =
    some [.sel, .x 0xE2 0x6E, .desel, .sel, .x 0x27 0x6E, .x 0x70 0x0E, .desel, .sel, .x 0x00 0x0E, .x 0xFF 0x08, .desel,
      .sel, .x 0x20 0x0E, .x 0x0A 0x0E, .desel, .w 5000] := by decide
theorem test_init_end : (after (exec (.init 0) { dirty with inited := false, payloadSize := 32 })).map
    (fun t => (t.mode, t.inited, t.dev.txFifo ++ t.dev.rxFifo, t.devReg 0x11 0)) =
    some (.standbyTxConfigured, true, [], 32) := by decide

/-! ## Packet transfer -/

-- V21: `ack` before the first query, which is exchange 10.
theorem test_transmit_success : (after (exec (.transmit 2)
    { base with answers := List.replicate 10 (replies 0x0E) ++ replyAfter 0x0E 0x20 :: List.replicate 5 (replies 0x0E) })).map
    (fun t => (t.trace.drop 20, t.result, t.dev.flags.dataSent, t.statusL)) =
    some ([.ce1, .w 15, .ce0, .t, .t, .sel, .x 0xFF 0x2E, .desel, .sel, .x 0x27 0x2E, .x 0x20 0x0E, .desel], true, false, 0x2E) := by
  decide

-- V22: `fail` after the first query; clear, then flush.
theorem test_transmit_max_rt : (after (exec (.transmit 2)
    { base with answers := List.replicate 11 (replies 0x0E) ++ replyAfter 0x0E 0x10 :: List.replicate 5 (replies 0x0E) })).map
    (fun t => (t.trace.drop 24, t.result, t.dev.txFifo, t.statusL)) =
    some ([.t, .sel, .x 0xFF 0x0E, .desel, .w 1000, .t, .sel, .x 0xFF 0x1E, .desel, .sel, .x 0x27 0x1E, .x 0x10 0x0E, .desel,
      .sel, .x 0xE1 0x0E, .desel], false, [], 0x0E) := by decide

-- V31.
theorem test_receive_nothing : (after (exec (.receive 0) base)).map (fun t => (t.trace.drop 8, t.result, t.rxlen, t.rxbuf[0], t.mode)) =
    some ([.ce1, .w 1000, .sel, .x 0xFF 0x0E, .desel], false, 9, 0x55, .activeRx) := by decide

-- V32.
theorem test_receive_payload : (after (exec (.receive 0)
    { base with dev := { base.dev with flags := ⟨true, false, false⟩, rxFifo := [[0xDE, 0xAD, 0x00, 0x00]] } })).map
    (fun t => (t.trace.drop 10, t.result, t.rxlen, t.rxbuf.toList.take 5, t.dev.flags.dataReady)) =
    some ([.sel, .x 0xFF 0x4E, .desel, .sel, .x 0x61 0x4E, .x 0xFF 0xDE, .x 0xFF 0xAD, .x 0xFF 0x00, .x 0xFF 0x00, .desel,
      .sel, .x 0x27 0x4E, .x 0x40 0x0E, .desel], true, 4, [0xDE, 0xAD, 0x00, 0x00, 0x55], false) := by decide

/-! ## Configuration -/

-- V39.
theorem test_set_channel_clamps : (after (exec (.setChannel 126) base)).map (fun t => (t.trace, t.devReg 0x05 0, t.result)) =
    some ([.sel, .x 0x25 0x0E, .x 0x7D 0x0E, .desel], 0x7D, true) := by decide

-- V41 and V44.
theorem test_set_payload_size_zero : (after (exec (.setPayloadSize 0) base)).map (fun t => (t.trace, t.payloadSize, t.devReg 0x11 0)) =
    some ([.sel, .x 0x31 0x0E, .x 0x01 0x0E, .desel], 1, 0x01) := by decide
theorem test_set_payload_size_clamps : (after (exec (.setPayloadSize 33) base)).map (fun t => (t.payloadSize, t.devReg 0x11 0)) =
    some (32, 0x20) := by decide

-- V46, with the first five bytes of the helper's HDATA.
theorem test_set_address : (after (exec (.setAddress 0) base)).map
    (fun t => (t.trace.take 3, t.trace.drop 8, t.devReg 0x10 4, t.devReg 0x0A 0)) =
    some ([.sel, .x 0x30 0x0E, .x 0x11 0x0E], [.sel, .x 0x2A 0x0E, .x 0x11 0x0E, .x 0x22 0x0E, .x 0xC2 0x0E, .x 0xC3 0x0E,
      .x 0xC4 0x0E, .desel], 0xC4, 0x11) := by decide

-- V47: nothing cleared.
theorem test_get_status : (after (exec (.getStatus 0) { base with dev := { base.dev with flags := ⟨false, true, false⟩ } })).map
    (fun t => (t.trace, t.rbyte, t.dev.flags.dataSent)) = some ([.sel, .x 0xFF 0x2E, .desel], 0x2E, true) := by decide

/-! ## Steps -/

-- V50.
theorem test_reset_between : (after (step { base with host := [.reset], payloadSize := 8, ce := true })).map
    (fun t => (t.trace, t.payloadSize, t.ce, t.inited, t.mode, t.devReg 0x11 0)) = some ([.desel, .ce0], 32, false, false, .powerDown, 4) := by
  decide

-- R231: reset after the second event of SET_CHANNEL, inside its frame.
theorem test_reset_inside : (after (step { base with host := [.presentThenReset (.host 0x501) 0 base.hdata 2] })).map
    (fun t => (t.trace, t.csn, t.busy)) = some ([.sel, .x 0x25 0x0E, .desel, .ce0], true, false) := by decide

-- V48 and V49.
theorem test_reserved_refused : step (presenting (.host 0xF00)) = .refused (.noInstruction (.reservedHostCode 0xF00)) := rfl
theorem test_busy_refused : step { presenting (.host 0x000) with busy := true } = .refused .requestWhileBusy := rfl

-- R236, D22: before INIT the step refuses what the engine would run.
theorem test_before_init_refused : step { presenting (.host 0x507) with inited := false } = .refused .beforeInit := rfl
theorem test_before_init_engine_runs : (after (exec (.setChannel 7) { base with inited := false })).map (fun t => (t.trace, t.result)) =
    some ([.sel, .x 0x25 0x0E, .x 0x07 0x0E, .desel], true) := by decide

-- R239, U1: RECEIVE is refused when the device's width is 4 and `payload_size` 5; POWER_UP is not.
theorem test_widths_disagree_refused : step { presenting (.host 0x400) with payloadSize := 5 } = .refused .widthsDisagree ∧
    (after (step { presenting (.host 0x900) with payloadSize := 5 })).isSome = true := ⟨by rfl, by decide⟩

-- R198: SET_CHANNEL leaves both queues.
theorem test_set_channel_keeps_queues : (after (exec (.setChannel 7) { base with dev := { base.dev with txFifo := [[1]], rxFifo := [[2]] } })).map
    (fun t => (t.dev.txFifo, t.dev.rxFifo)) = some ([[1]], [[2]]) := by decide

-- R9, U24: a table that selects four retransmits is no configuration's.
theorem test_other_retransmit_count_refused :
    configOk { cfg with initTable := [(0x00, 0x08), (0x02, 0x03), (0x03, 0x03), (0x04, 0x04)] } = false ∧
    configOk { cfg with initTable := [(0x00, 0x08), (0x02, 0x03), (0x03, 0x03), (0x04, 0x03)] } = true := by decide

-- R161: a stale payload is gone when the new one is loaded, and what the radio does only takes payloads away.
theorem test_stale_payload_flushed : (loadAndFire 2 { base with dev := { base.dev with txFifo := [[9], [8]] } }).dev.txFifo =
    [[0x11, 0x22, 0x00, 0x00]] := by decide
theorem test_radio_removes : keepMarked [false, true, false] [[1], [2], [3], [4]] = [[2], [4]] := by decide

-- The host's question: a table word runs as the first instruction after reset, RECEIVE among them.
theorem test_receive_first_after_reset : (after (step (State.reset.withFetchWord 16 0x400))).isSome = true := by decide
theorem test_first_after_reset : (after (step (State.reset.withFetchWord 16 0x54C))).map (fun t => (t.result, t.busy, t.trace.length)) =
    some (true, false, 4) := by decide

/-! ## Witnesses: a concrete state and operands that meet the hypotheses of each statement that has some -/

/-- The oracle device answers `st` in exchange number `n`. -/
def Test.answering (n : Nat) (st : Byte) : State :=
  { Test.oracle with answers := List.replicate n (Test.replies 0x0E) ++ List.replicate 12 (Test.replies st) }

/-- The base state with an address operand's five bytes. -/
def Test.five : State := { Test.base with callLen := 5 }

/-- The base state with a payload waiting and `n` quiet exchanges scripted. -/
def Test.waiting (n : Nat) : State :=
  { Test.base with
    answers := List.replicate n (Test.replies 0x0E)
    dev := { Test.base.dev with flags := { dataReady := true, dataSent := false, maxRt := false }, rxFifo := [[1, 2, 3, 4]] } }

/-- The base state before INIT. -/
def Test.fresh : State := { Test.base with inited := false }

theorem witness_EncodeThenDecode : (Instr.writeRegister 0x1F).wellFormed = true ∧ (Instr.readRegister 0x00).wellFormed = true ∧
    (Instr.setChannel 0xFF).wellFormed = true := by decide
theorem witness_DecodeThenEncode : decode (.bus 0x3F) = .ok (.writeRegister 0x1F) ∧ decode (.host 0xAFF) = .ok (.powerDown 0xFF) :=
  ⟨rfl, rfl⟩

-- The lowest and the highest reserved word; the word below the lowest is an instruction.
theorem witness_ReservedHostCodesRefused : 0xB00 ≤ (0xB00 : BitVec 12).toNat ∧ 0xB00 ≤ (0xFFF : BitVec 12).toNat ∧
    ¬ 0xB00 ≤ (0xAFF : BitVec 12).toNat ∧ (presenting (.host 0xB00)).busy = false ∧ configOk (presenting (.host 0xB00)).cfg = true ∧
    (presenting (.host 0xB00)).host = .present (.host 0xB00) 1 base.hdata :: [] := by decide

-- The bytes at the edges of the ranges.
theorem witness_UnlistedCommandBytes :
    [0x3F, 0x40, 0x60, 0x61, 0x62, 0x9F, 0xA0, 0xA1, 0xE0, 0xE1, 0xE3, 0xE4, 0xFE, 0xFF].map (fun b => (decodeBus b).isNone) =
      [false, true, true, false, true, true, false, true, true, false, false, true, true, false] := by decide

theorem witness_StepRunsWhatIsPresented : (presenting (.host 0x306)).busy = false ∧ configOk (presenting (.host 0x306)).cfg = true ∧
    (presenting (.host 0x306)).host = .present (.host 0x306) 1 base.hdata :: [] ∧ decodeTableWord 12 0x306 = some (.transmit 6) ∧
    needsInit (.host 0x306) = true ∧ (presenting (.host 0x306)).Allows (.host 0x306) ∧ (presenting (.host 0x400)).Allows (.host 0x400) ∧
    State.reset.Allows (.bus 0xFF) ∧ State.reset.Allows (.host 0x000) := by decide

-- The lowest and the highest operation refused, INIT, and RECEIVE with a width of 4 and a payload size of 5.
theorem witness_UnmetPreconditionsRefused : { presenting (.host ((0x1 : BitVec 4) ++ (5 : Byte))) with inited := false }.busy = false ∧
    configOk (presenting (.host ((0x1 : BitVec 4) ++ (5 : Byte)))).cfg = true ∧
    (presenting (.host ((0x1 : BitVec 4) ++ (5 : Byte)))).host = .present (.host ((0x1 : BitVec 4) ++ (5 : Byte))) 1 base.hdata :: [] ∧
    (1 ≤ (0x1 : BitVec 4).toNat ∧ (0x1 : BitVec 4).toNat ≤ 0xA) ∧ (1 ≤ (0xA : BitVec 4).toNat ∧ (0xA : BitVec 4).toNat ≤ 0xA) ∧
    ¬ (0xB : BitVec 4).toNat ≤ 0xA ∧ ¬ 1 ≤ (0x0 : BitVec 4).toNat ∧
    ({ base with payloadSize := 5 }.inited = true ∧
      ({ base with payloadSize := 5 }.devReg 0x11 0).toNat ≠ { base with payloadSize := 5 }.payloadSize.toNat) := by decide
-- FixedParameters and InitTablesMeetTheConstraints; the table's entries for each clause.
theorem witness_configurations : base.busy = false ∧ configOk { cfg with tPollUs := 0 } = false ∧ configOk cfg = true ∧ ((0x1C : BitVec 5), (0x00 : Byte)) ∈ cfg.initTable ∧
    ((0x04 : BitVec 5), (0x03 : Byte)) ∈ cfg.initTable := by decide
theorem witness_IdleEngineDoesNothing : base.busy = false ∧ configOk base.cfg = true ∧ base.host = [] := by decide
theorem witness_NoMoveWhileBusy : { base with busy := true }.busy = true := by decide
theorem witness_ResetBetweenOperations : { base with host := [.reset] }.busy = false ∧ configOk { base with host := [.reset] }.cfg = true ∧
    { base with host := [.reset] }.host = .reset :: [] := by decide

/-- SET_CHANNEL 1 presented, and reset asserted after two of its events. -/
def Test.cutting : State := { Test.base with host := [.presentThenReset (.host 0x501) 0 Test.base.hdata 2] }

theorem witness_ResetInsideOperation : cutting.busy = false ∧ configOk cutting.cfg = true ∧
    cutting.host = .presentThenReset (.host 0x501) 0 base.hdata 2 :: [] ∧ decodeTableWord 12 0x501 = some (.setChannel 1) ∧ cutting.Allows (.host 0x501) ∧
    (after (exec (.setChannel 1) { cutting with host := [], callLen := 0, hdata := base.hdata })).isSome = true := by decide

-- One operand for each clause: a stored byte, five of them, none, the status register, register 0x00 and another.
theorem witness_WriteRegisterCompletes : Memory.wf base.dev.regs = true ∧
    (reservedAddr ((0x05 : Byte).setWidth 5) = false ∧ base.callLen.val ≤ (regWidth ((0x05 : Byte).setWidth 5)).getD 32 ∧
      (0x05 : Byte).setWidth 5 ≠ (0x07 : BitVec 5)) ∧
    (reservedAddr ((0x10 : Byte).setWidth 5) = false ∧ five.callLen.val ≤ (regWidth ((0x10 : Byte).setWidth 5)).getD 32) ∧
    { base with callLen := 0 }.callLen = 0 ∧ configOk base.cfg = true ∧ ((0xE7 : Byte).setWidth 5 = (0x07 : BitVec 5) ∧ base.callLen = 1) ∧
    ({ base with hdata := Vector.replicate 32 0x70 }.hdata[0].getLsbD 6 = true ∧
      { base with hdata := Vector.replicate 32 0x70 }.hdata[0].getLsbD 5 = true ∧
      { base with hdata := Vector.replicate 32 0x70 }.hdata[0].getLsbD 4 = true) ∧
    (dirty.hdata[0].getLsbD 6 = false ∧ dirty.dev.flags.dataReady = true ∧ dirty.hdata[0].getLsbD 5 = false ∧
      dirty.dev.flags.dataSent = true ∧ { base with hdata := Vector.replicate 32 0x60 }.hdata[0].getLsbD 4 = false ∧
      { base.dev with flags := ⟨false, false, true⟩ }.flags.maxRt = true) ∧
    ((0x20 : Byte).setWidth 5 = (0x00 : BitVec 5) ∧ base.callLen ≠ 0) := by decide
theorem witness_ReadRxPayloadCompletes : (waiting 5).conforming = true ∧ (waiting 5).inited = true ∧ (waiting 5).widthAgrees = true ∧
    (waiting 5).QuietFor ((waiting 5).payloadSize.toNat + 1) ∧ (waiting 5).dev.rxFifo = [1, 2, 3, 4] :: [] ∧
    ([1, 2, 3, 4] : Payload).length = (waiting 5).payloadSize.toNat := by decide
theorem witness_WriteTxPayloadCompletes : base.payloadSize.toNat ≤ 32 ∧ { base with payloadSize := 32 }.payloadSize.toNat ≤ 32 := by
  decide
theorem witness_ReadReturnsWhatWasWritten : base.conforming = true ∧ five.inited = true ∧ Memory.wf five.dev.regs = true ∧
    storesBytes ((0x0A : Byte).setWidth 5) = true ∧ five.callLen.val ≤ (regWidth ((0x0A : Byte).setWidth 5)).getD 0 ∧
    ((after (exec (.writeRegister 0x0A) five)).bind (fun t => after (exec (.readRegister 0x0A) t))).isSome = true := by decide

-- The mode and power operations, TRANSMIT, RECEIVE, and the configuration operations: what they ask for, a device with each flag set.
theorem witness_Ready : base.Ready ∧ dirty.Ready ∧ oracle.Ready ∧ Memory.wf base.dev.regs = true ∧ Memory.wf dirty.dev.regs = true ∧
    base.conforming = true ∧ base.QuietFor 12 ∧ dirty.dev.flags.dataReady = true ∧ dirty.dev.flags.dataSent = true := by decide
theorem witness_ConfigUpdateChangesOneBit : base.conforming = true ∧ base.inited = true ∧ Memory.wf base.dev.regs = true := by decide
theorem witness_InitCompletes : configOk fresh.cfg = true ∧ fresh.inited = false := by decide
theorem witness_InitWritesTheTable : configOk fresh.cfg = true ∧ Memory.wf fresh.dev.regs = true ∧
    ((0x05 : BitVec 5), (0x02 : Byte)) ∈ fresh.cfg.initTable ∧ (0x05 : BitVec 5) ≠ 0x00 := by decide
theorem witness_InitEndState : fresh.conforming = true ∧ configOk fresh.cfg = true ∧ Memory.wf fresh.dev.regs = true ∧
    fresh.cfg.clrAll &&& 0x70 = 0x70 ∧ fresh.QuietFor (2 * fresh.cfg.initTable.length + 10) := by decide

-- Payload sizes 1 and 32, a message shorter and longer than the payload.
theorem witness_PayloadTruncatedAndPadded : (1 : BitVec 6).toNat ≤ 32 ∧ (32 : BitVec 6).toNat ≤ 32 ∧
    0 < min (2 : Byte).toNat (32 : BitVec 6).toNat ∧ ¬ 31 < min (2 : Byte).toNat (32 : BitVec 6).toNat ∧
    31 < min (200 : Byte).toNat (32 : BitVec 6).toNat := by decide
theorem witness_TransmitEvents : base.Ready ∧ (after (exec (.transmit 2) (answering 10 0x2E))).map (·.result) = some true ∧
    (after (exec (.transmit 2) (answering 10 0x1E))).map (·.result) = some false := by decide
theorem witness_TransmitSucceedsOnDataSent : (answering 10 0x2E).Ready ∧ (answering 10 0x2E).conforming = false ∧
    (answering 10 0x2E).payloadSize.toNat ≤ 32 ∧ (answering 10 0x2E).delayAt 3 < 100000 ∧
    ((answering 10 0x2E).byteAt (6 + (answering 10 0x2E).payloadSize.toNat)).getLsbD 5 = true ∧
    (answering 10 0x2E).cfg.clrDs.getLsbD 5 = true ∧ (answering 10 0x2E).cfg.clrDs.getLsbD 6 = false ∧
    (answering 10 0x2E).cfg.clrDs.getLsbD 4 = false := by decide
theorem witness_TransmitFailsOnMaxRetransmits : (answering 10 0x1E).Ready ∧ (answering 10 0x1E).conforming = false ∧
    (answering 10 0x1E).payloadSize.toNat ≤ 32 ∧ (answering 10 0x1E).delayAt 3 < 100000 ∧
    ((answering 10 0x1E).byteAt (6 + (answering 10 0x1E).payloadSize.toNat)).getLsbD 5 = false ∧
    ((answering 10 0x1E).byteAt (6 + (answering 10 0x1E).payloadSize.toNat)).getLsbD 4 = true ∧
    (answering 10 0x1E).cfg.clrMr.getLsbD 4 = true ∧ (answering 10 0x1E).cfg.clrMr.getLsbD 6 = false ∧
    ((answering 10 0x1E).answers[(answering 10 0x1E).drawn + (9 + (answering 10 0x1E).payloadSize.toNat)]?).map DevAnswer.radio =
      some Radio.quiet := by decide
theorem witness_TransmitTimesOut : { base with delays := [0, 0, 0, 100000] }.Ready ∧
    100000 ≤ { base with delays := [0, 0, 0, 100000] }.delayAt 3 := by decide
theorem witness_PollLoopEndsByDeadline : base.Ready ∧ 0 < base.cfg.tPollUs := by decide
theorem witness_ReceiveCompletes : base.Ready ∧ Memory.wf base.dev.regs = true ∧ base.widthAgrees = true := by decide

-- Both of its cases happen.
theorem witness_ReceiveCompletes_cases : (after (exec (.receive 0) base)).map (·.result) = some false ∧
    (after (exec (.receive 0) (waiting 40))).map (·.result) = some true := by decide
theorem witness_ReceiveWithoutData : oracle.Ready ∧ oracle.widthAgrees = true ∧ oracle.conforming = false ∧ (oracle.byteAt 4).getLsbD 6 = false ∧
    Memory.wf oracle.dev.regs = true := by decide
theorem witness_ReceiveWithData : (answering 4 0x4E).Ready ∧ (answering 4 0x4E).conforming = false ∧
    ((answering 4 0x4E).byteAt 4).getLsbD 6 = true ∧ (answering 4 0x4E).cfg.clrDr.getLsbD 6 = true ∧
    (answering 4 0x4E).cfg.clrDr.getLsbD 5 = false ∧ (answering 4 0x4E).widthAgrees = true ∧
    Memory.wf (answering 4 0x4E).dev.regs = true := by decide
theorem witness_ReceiveReturnsOldestPayload : (waiting 12).Synced ∧ (waiting 12).QuietFor ((waiting 12).payloadSize.toNat + 8) ∧
    (waiting 12).dev.flags.dataReady = true ∧ (waiting 12).dev.rxFifo = [1, 2, 3, 4] :: [] ∧
    ([1, 2, 3, 4] : Payload).length = (waiting 12).payloadSize.toNat ∧ (waiting 12).cfg.clrDr.getLsbD 6 = true := by decide
theorem witness_RepeatedReceiveReturnsFalse : (waiting 17).Synced ∧ (waiting 17).QuietFor ((waiting 17).payloadSize.toNat + 13) ∧
    (waiting 17).cfg.clrDr.getLsbD 6 = true ∧ (after (exec (.receive 0) (waiting 17))).map (·.result) = some true := by decide
theorem witness_PayloadSizeReadback : base.Ready ∧ base.conforming = true ∧ Memory.wf base.dev.regs = true ∧ base.callLen = 1 ∧
    ((after (exec (.setPayloadSize 33) base)).bind (fun t => after (exec (.readRegister 0x11) t))).map (·.dataIn) = some [0x20] := by
  decide
theorem witness_AddressReadback : five.Ready ∧ five.conforming = true ∧ Memory.wf five.dev.regs = true ∧ five.callLen = 5 ∧
    (((after (exec (.setAddress 0) five)).bind (fun t => after (exec (.readRegister 0x10) t))).map (·.dataIn) =
      some [0x11, 0x22, 0xC2, 0xC3, 0xC4]) ∧
    (((after (exec (.setAddress 0) five)).bind (fun t => after (exec (.readRegister 0x0A) t))).map (·.dataIn) =
      some [0x11, 0x22, 0xC2, 0xC3, 0xC4]) := by decide

theorem witness_StepKeepsInvariant : State.Inv (presenting (.host 0x400)) ∧ (after (step (presenting (.host 0x400)))).isSome = true ∧
    State.Inv cutting ∧ (after (step cutting)).isSome = true := by decide
theorem witness_HostOperationsKeepModesInStep : decodeTableWord 12 0x400 = some (.receive 0) ∧ base.Synced ∧
    (after (exec (.receive 0) base)).isSome = true := by decide
theorem witness_InitEstablishesModesInStep : fresh.conforming = true ∧ configOk fresh.cfg = true ∧ Memory.wf fresh.dev.regs = true ∧
    (after (exec (.init 0) fresh)).isSome = true := by decide
-- The statements about every instruction: one of each kind of precondition.
theorem witness_Allows : base.Allows (encode (.receive 0)) ∧ base.Allows (encode (.setChannel 7)) ∧ State.reset.Allows (encode (.init 0)) ∧
    State.reset.Allows (encode (.readRegister 5)) ∧ base.inited = true ∧ base.widthAgrees = true := by decide
theorem witness_RegistersHaveTheirWriters : (after (exec (.setChannel 7) base)).isSome = true ∧ (after (exec .nop base)).isSome = true := by
  decide
theorem witness_TraceAndTimeOnlyGrow : (after (exec (.powerUp 0) base)).isSome = true := by decide
theorem witness_EngineRunsUnchangedBeforeInit : oracle.conforming = false ∧ (∀ arg, Instr.getStatus 0 ≠ .init arg) ∧
    base.conforming = true ∧ base.seq = .idle ∧ needsWidth (encode (.receive 0)) = true ∧ base.widthAgrees = true ∧
    (after (exec (.getStatus 0) { base with inited := true, conforming := false })).isSome = true ∧
    (after (exec (.getStatus 0) { base with inited := false })).isSome = true := by decide
theorem witness_BothFlagsCountAsSuccess : (answering 10 0x3E).Ready ∧ (answering 10 0x3E).conforming = false ∧
    (answering 10 0x3E).payloadSize.toNat ≤ 32 ∧ (answering 10 0x3E).delayAt 3 < 100000 ∧
    ((answering 10 0x3E).byteAt (6 + (answering 10 0x3E).payloadSize.toNat)).getLsbD 5 = true ∧
    ((answering 10 0x3E).byteAt (6 + (answering 10 0x3E).payloadSize.toNat)).getLsbD 4 = true := by decide

end Sys2Proof.Machine
end

section
/-! The fixed parameters (R8, R9, R10): what a configuration's values are, that the default record is one, and that a step takes no
other record. -/

namespace Sys2Proof.Machine

/-- R9's values that no operation reads, and so `configOk_spec` does not name: the register address form, the least chip-enable pulse and
the automatic retransmit setting. -/
theorem unreadValues_of_configOk (c : Config) (h : configOk c = true) :
    c.regAddrW = 5 ∧ c.regAddrMask = 0x1F ∧ c.tCePulseMinUs = 10 ∧ c.retxCount = 3 ∧ c.retxDelayUs = 250 := by
  simp only [configOk, fixedOk, Bool.and_eq_true, beq_iff_eq] at h
  simp only [h, and_self]

/-- The clauses of `configOk` but for the poll interval compute; the open `T_POLL_US` is a successor, so positive whatever it is. -/
theorem configOk_default : configOk Config.default = true := by
  have hfixed : fixedOk Config.default = true := by decide
  have htable : initTableOk Config.default = true := by decide
  have hsettle : 0 < Config.default.tSettleRxUs := by decide
  have hpoll : 0 < Config.default.tPollUs := Nat.succ_pos Config.openPoll
  have hbits : Config.default.rxmodeBit ≠ Config.default.powerBit := by decide
  simp only [configOk, hfixed, htable, hsettle, hpoll, hbits, decide_true, Bool.and_self, ne_eq, not_false_eq_true]

/-- U24: an idle engine's step refuses a record that is no configuration, whatever the host presents. -/
theorem step_of_not_configOk (s : State) (hidle : s.busy = false) (hcfg : configOk s.cfg = false) :
    step s = .refused .notAConfiguration := by
  simp [step, hidle, hcfg]

/-- Settles O57, by the conjuncts of `configOk`, the default record's values and the last branch of `step`. -/
theorem fixedParameters : Obligations.FixedParameters := by
  refine ⟨fun c h => ?values, configOk_default, step_of_not_configOk⟩
  case values =>
    obtain ⟨hmin, hmax, hdefault, hchannel, haddr, hsettle, hpwrup, hpulse, htimeout, hdr, hds, hmr, _⟩ := configOk_spec c h
    obtain ⟨hregW, hmask, hpulseMin, hcount, hdelay⟩ := unreadValues_of_configOk c h
    exact ⟨hmin, hmax, hdefault, hchannel, haddr, hregW, hmask, hsettle, hpwrup, hpulse, hpulseMin, htimeout, hcount, hdelay,
      hdr, hds, hmr⟩

end Sys2Proof.Machine
end

section
/-! Which registers an instruction writes (R21, R22, R26 to R30): one lemma per register, its writers excluded by name. In each the
frame lemmas of the shared operations say that no other instruction reaches the register. -/

namespace Sys2Proof.Machine

variable {i : Instr} {s t : State}

/-- `finish` sets `inited` at the end of INIT alone (R26), so an exit of the poll loop leaves it. -/
theorem pollLoop_inited (k : Nat) (s : State) (h : s.seq ≠ .running .init) : (pollLoop k s).inited = s.inited := by
  induction k generalizing s with
  | zero => simp [pollLoop, timeoutExit, h]
  | succ k ih => rw [pollLoop_succ]; split_ifs <;> simp [timeoutExit, successExit, maxRtExit, ih, h]

/-- Neither exit of RECEIVE sets `inited`. -/
theorem receiveBody_inited (s : State) (h : s.seq ≠ .running .init) : (receiveBody s).inited = s.inited := by
  simp only [receiveBody]
  split <;> simp [readPayload, h]

/-- R21: SET_PAYLOAD_SIZE alone writes `payload_size`. -/
theorem exec_payloadSize (h : exec i s = .next t) (hi : ∀ arg, i ≠ .setPayloadSize arg) : t.payloadSize = s.payloadSize := by
  cases i
  case setPayloadSize arg => exact absurd (hi arg) (by simp)
  all_goals cases h; simp

/-- R28: GET_STATUS alone writes `RBYTE`. -/
theorem exec_rbyte (h : exec i s = .next t) (hi : ∀ arg, i ≠ .getStatus arg) : t.rbyte = s.rbyte := by
  cases i
  case getStatus arg => exact absurd (hi arg) (by simp)
  all_goals cases h; simp

/-- R30: RECEIVE alone writes `RXLEN` and `RXBUF`. -/
theorem exec_rxbuf (h : exec i s = .next t) (hi : ∀ arg, i ≠ .receive arg) : t.rxlen = s.rxlen ∧ t.rxbuf = s.rxbuf := by
  cases i
  case receive arg => exact absurd (hi arg) (by simp)
  all_goals cases h; simp

/-- R26: INIT alone writes `inited`. -/
theorem exec_inited (h : exec i s = .next t) (hi : ∀ arg, i ≠ .init arg) : t.inited = s.inited := by
  cases i
  case init arg => exact absurd (hi arg) (by simp)
  case transmit => cases h; simp [pollLoop_inited]
  case receive => cases h; exact receiveBody_inited _ (by simp)
  all_goals cases h; simp

/-- R27: the operations that cannot fail leave `RESULT` 1, a bus command leaves it as it was. -/
theorem exec_result (h : exec i s = .next t) (hi : ∀ arg, i ≠ .transmit arg ∧ i ≠ .receive arg) :
    t.result = true ∨ t.result = s.result := by
  cases i
  case transmit arg => exact absurd (hi arg) (by simp)
  case receive arg => exact absurd (hi arg) (by simp)
  all_goals cases h; simp

/-- R22: INIT, the two mode operations, TRANSMIT and RECEIVE alone write `CE`. -/
theorem exec_ce (h : exec i s = .next t) (hi : ∀ arg, i ≠ .init arg ∧ i ≠ .setTxMode arg ∧ i ≠ .setRxMode arg ∧
    i ≠ .transmit arg ∧ i ≠ .receive arg) : t.ce = s.ce := by
  cases i
  case init arg => exact absurd (hi arg) (by simp)
  case setTxMode arg => exact absurd (hi arg) (by simp)
  case setRxMode arg => exact absurd (hi arg) (by simp)
  case transmit arg => exact absurd (hi arg) (by simp)
  case receive arg => exact absurd (hi arg) (by simp)
  all_goals cases h; simp

/-- R8, R29: no instruction writes an input, the configuration or a script. -/
theorem exec_sameInputs (h : exec i s = .next t) : SameInputs s t := by
  cases i
  all_goals cases h; simp [SameInputs]

/-- Settles O51, register by register. -/
theorem registersHaveTheirWriters : Obligations.RegistersHaveTheirWriters := fun _ _ _ _ h =>
  ⟨exec_payloadSize h, exec_rbyte h, exec_rxbuf h, exec_inited h, exec_result h, exec_ce h, exec_sameInputs h⟩

end Sys2Proof.Machine
end

section
/-! The invariant (R21, R23, R30 to R32, R101). `State.Sound` is the part of it that holds inside an operation too, between two of its
named operations: each of those keeps it, every operation's exit adds that the engine is idle, and a cut of a disciplined trace is
disciplined, which is what a reset inside an operation needs. -/

namespace Sys2Proof.Machine

/-! ## The device-select discipline (R101) -/

theorem selectLevel_append (lvl : Bool) (es fs : List Event) :
    selectLevel lvl (es ++ fs) = (selectLevel lvl es).bind (fun l => selectLevel l fs) := by
  induction es generalizing lvl with
  | nil => rfl
  | cons e es ih => cases e <;> cases lvl <;> simp [selectLevel, ih]

/-- What happened up to any moment obeys the discipline, if the whole does. -/
theorem selectLevel_take (lvl l : Bool) (es : List Event) (n : Nat) (h : selectLevel lvl es = some l) :
    ∃ m, selectLevel lvl (es.take n) = some m := by
  rw [← List.take_append_drop n es, selectLevel_append, Option.bind_eq_some_iff] at h
  obtain ⟨m, hm, _⟩ := h
  exact ⟨m, hm⟩

/-- Exchanges inside a frame leave `CSN` low. -/
theorem selectLevel_exchanges (out ins : List Byte) : selectLevel false (List.zipWith Event.x out ins) = some false := by
  induction out generalizing ins with
  | nil => rfl
  | cons o out ih =>
    cases ins with
    | nil => rfl
    | cons i ins => exact ih ins

/-- A framed transaction starts and ends with `CSN` high (R100). -/
theorem selectLevel_txn (c st : Byte) (out ins : List Byte) : selectLevel true (txn c st out ins) = some true := by
  have h : selectLevel true (txn c st out ins) = selectLevel false (List.zipWith Event.x out ins ++ [.desel]) := rfl
  rw [h, selectLevel_append, selectLevel_exchanges]
  rfl

/-- A load is as long as the payload size (R162). -/
theorem framedPayload_length (hdata : Vector Byte 32) (n : Nat) (p : BitVec 6) (hn : n ≤ p.toNat) (hp : p.toNat ≤ 32) :
    (framedPayload hdata n p).length = p.toNat := by
  simp only [framedPayload, List.length_append, List.length_take, Vector.length_toList, List.length_replicate]
  omega

/-! ## What holds inside an operation -/

/-- `State.Inv` but for `busy` and `seq`, which an operation in progress has otherwise. -/
structure State.Sound (s : State) : Prop where
  sizePos : 1 ≤ s.payloadSize.toNat
  sizeMax : s.payloadSize.toNat ≤ 32
  deselected : s.csn = true
  canonical : Memory.wf s.dev.regs = true
  disciplined : selectLevel true s.trace = some true
  rxlenMax : s.rxlen.toNat ≤ 32
  idxMax : s.idx.toNat ≤ 32
  started : s.t0 ≤ s.now

theorem inv_iff (s : State) : s.Inv ↔ s.Sound ∧ s.busy = false ∧ s.seq = .idle := by
  constructor
  · rintro ⟨h1, h2, hb, hq, h3, h4, h5, h6, h7, h8⟩
    exact ⟨⟨h1, h2, h3, h4, h5, h6, h7, h8⟩, hb, hq⟩
  · rintro ⟨⟨h1, h2, h3, h4, h5, h6, h7, h8⟩, hb, hq⟩
    exact ⟨h1, h2, hb, hq, h3, h4, h5, h6, h7, h8⟩

namespace State.Sound

variable {s : State}

/-- Disciplined events from `CSN` high to `CSN` high may be added. -/
theorem disciplined_append (h : s.Sound) (es : List Event) (he : selectLevel true es = some true) :
    selectLevel true (s.trace ++ es) = some true := by
  rw [selectLevel_append, h.disciplined]
  exact he

/-! ## The named operations -/

theorem cmd (h : s.Sound) (c : Byte) (out : List Byte) (hlen : out.length ≤ 32) : (Machine.cmd c out s).Sound := by
  obtain ⟨rs, _, _, htrace, _⟩ := cmd_spec c out s
  have hd := h.disciplined_append _ (selectLevel_txn c (Machine.cmd c out s).statusL out rs)
  constructor
  case canonical => exact cmd_wf c out s h.canonical
  case disciplined => rw [htrace]; exact hd
  case idxMax => rw [cmd_idx, BitVec.toNat_ofNat]; omega
  case started => simpa using h.started.trans (Nat.le_add_right _ _)
  all_goals simp [h.sizePos, h.sizeMax, h.rxlenMax]

theorem shadowWrite (h : s.Sound) (a : Byte) (bs : List Byte) : (Machine.shadowWrite a bs s).Sound := by
  obtain ⟨h1, h2, h3, h4, h5, h6, h7, h8⟩ := h
  constructor <;> simpa

theorem regReadBlock (h : s.Sound) (a : Byte) (n : Nat) (hn : n ≤ 32) : (Machine.regReadBlock a n s).Sound :=
  h.cmd _ _ (by simpa using hn)

theorem regWriteBlock (h : s.Sound) (a : Byte) (bs : List Byte) (hlen : bs.length ≤ 32) : (Machine.regWriteBlock a bs s).Sound :=
  (h.cmd _ _ hlen).shadowWrite a bs

theorem regWrite (h : s.Sound) (a v : Byte) : (Machine.regWrite a v s).Sound := h.regWriteBlock a [v] (by simp)

theorem cfgUpdate (h : s.Sound) (set clr : Byte) : (Machine.cfgUpdate set clr s).Sound :=
  (h.regReadBlock 0x00 1 (by decide)).regWrite 0x00 _

theorem setCE (h : s.Sound) (b : Bool) : (Machine.setCE b s).Sound := by
  have hd := h.disciplined_append [if b then .ce1 else .ce0] (by cases b <;> rfl)
  exact ⟨h.sizePos, h.sizeMax, h.deselected, h.canonical, hd, h.rxlenMax, h.idxMax, h.started⟩

/-- The one `CSN` edge outside a frame, INIT's first (R149). -/
theorem deselect (h : s.Sound) : (setCSN true s).Sound :=
  ⟨h.sizePos, h.sizeMax, rfl, h.canonical, h.disciplined_append [.desel] rfl, h.rxlenMax, h.idxMax, h.started⟩

theorem wait (h : s.Sound) (n : Nat) : (Machine.wait n s).Sound := by
  have hn : s.t0 ≤ s.now + n + s.delay := by have := h.started; omega
  exact ⟨h.sizePos, h.sizeMax, h.deselected, h.canonical, h.disciplined_append [.w n] rfl, h.rxlenMax, h.idxMax, hn⟩

theorem readNow (h : s.Sound) : (Machine.readNow s).Sound :=
  ⟨h.sizePos, h.sizeMax, h.deselected, h.canonical, h.disciplined_append [.t] rfl, h.rxlenMax, h.idxMax,
    h.started.trans (Nat.le_add_right _ _)⟩

theorem startTimer (h : s.Sound) : (Machine.startTimer s).Sound :=
  { h.readNow with started := le_rfl }

theorem accept (h : s.Sound) (op : HostOp) : (Machine.accept op s).Sound :=
  { h with }

theorem finish (h : s.Sound) (b : Bool) : (Machine.finish b s).Sound :=
  { h with }

/-! ## The bodies -/

theorem txModeBody (h : s.Sound) : (Machine.txModeBody s).Sound := ((h.cfgUpdate _ _).setCE _).wait _

theorem rxModeBody (h : s.Sound) : (Machine.rxModeBody s).Sound := ((h.cfgUpdate _ _).setCE _).wait _

theorem powerUpBody (h : s.Sound) : (Machine.powerUpBody s).Sound := (h.cfgUpdate _ _).wait _

/-- What is lost of the device at POWER_DOWN leaves its registers canonical (log 9, log 25). -/
theorem powerDownBody (h : s.Sound) : (Machine.powerDownBody s).Sound := by
  have hu := h.cfgUpdate 0x00 (pwrMask s.cfg)
  refine { hu with canonical := ?_ }
  rw [Machine.powerDownBody, poweredDown_dev]
  split
  · exact hu.canonical
  · exact freeDevice_wf _

theorem writeTable (h : s.Sound) (es : List (BitVec 5 × Byte)) : (Machine.writeTable es s).Sound := by
  induction es generalizing s with
  | nil => exact h
  | cons e es ih => exact ih (h.regWrite _ _)

theorem initBody (h : s.Sound) : (Machine.initBody s).Sound :=
  (((((((h.deselect.setCE _).writeTable _).regWrite _ _).cmd _ _ (by decide)).cmd _ _ (by decide)).regWrite _ _).powerUpBody)

theorem loadAndFire (h : s.Sound) (arg : Byte) : (Machine.loadAndFire arg s).Sound := by
  have hlen := framedPayload_length s.hdata (transmitLen arg s.payloadSize) s.payloadSize (Nat.min_le_right _ _) h.sizeMax
  have hload := (h.txModeBody.cmd 0xE1 [] (by decide)).cmd 0xA0 _ (hlen.trans_le h.sizeMax)
  exact (((hload.setCE true).wait _).setCE false).startTimer

end State.Sound

/-! ## The exits: the engine is idle again -/

variable {s : State}

theorem finish_inv (h : s.Sound) (b : Bool) : (finish b s).Inv := (inv_iff _).mpr ⟨h.finish b, rfl, rfl⟩

/-- Losing the device leaves its registers canonical (log 9). -/
theorem keepDeviceIf_inv (h : s.Inv) (known : Bool) : (keepDeviceIf known s).Inv := by
  obtain ⟨hs, hb, hq⟩ := (inv_iff s).mp h
  refine (inv_iff _).mpr ⟨{ hs with canonical := ?_ }, hb, hq⟩
  rw [keepDeviceIf_dev]
  split
  · exact hs.canonical
  · exact freeDevice_wf _

theorem pollLoop_inv (k : Nat) (h : s.Sound) : (pollLoop k s).Inv := by
  induction k generalizing s with
  | zero => exact finish_inv h.readNow false
  | succ k ih =>
    have hq : (statusQuery (readNow s)).Sound := h.readNow.cmd 0xFF [] (by decide)
    rw [pollLoop_succ]
    split_ifs
    · exact finish_inv h.readNow false
    · exact finish_inv (hq.regWrite _ _) true
    · exact finish_inv ((hq.regWrite _ _).cmd 0xE1 [] (by decide)) false
    · exact ih (hq.wait _)

theorem readPayload_inv (h : s.Sound) : (readPayload s).Inv := by
  have hsize : State.Sound { s with rxlen := s.payloadSize } := { h with rxlenMax := h.sizeMax }
  have hread := hsize.cmd 0x61 (List.replicate s.payloadSize.toNat s.cfg.fill) (by simpa using h.sizeMax)
  have hstored (buf : Vector Byte 32) : State.Sound { cmd 0x61 (List.replicate s.payloadSize.toNat s.cfg.fill)
    { s with rxlen := s.payloadSize } with rxbuf := buf } := { hread with }
  exact finish_inv ((hstored _).regWrite _ _) true

theorem receiveBody_inv (h : s.Sound) : (receiveBody s).Inv := by
  have hq : (statusQuery (rxModeBody s)).Sound := h.rxModeBody.cmd 0xFF [] (by decide)
  simp only [receiveBody]
  split
  · exact readPayload_inv hq
  · exact finish_inv hq false

/-! ## Instructions and steps -/

/-- `clamp(arg, 1, 32)` is a payload size (R192). -/
theorem clampedSize_range (c : Config) (arg : Byte) (h : configOk c = true) : 1 ≤ clampedSize c arg ∧ clampedSize c arg ≤ 32 := by
  obtain ⟨hmin, hmax, _⟩ := configOk_spec c h
  rw [clampedSize, hmin, hmax]
  omega

theorem setPayloadSize_sound (h : s.Sound) (arg : Byte) (hcfg : configOk s.cfg = true) :
    State.Sound { s with payloadSize := BitVec.ofNat 6 (clampedSize s.cfg arg) } := by
  obtain ⟨hlo, hhi⟩ := clampedSize_range s.cfg arg hcfg
  have hsize : (BitVec.ofNat 6 (clampedSize s.cfg arg)).toNat = clampedSize s.cfg arg := by
    rw [BitVec.toNat_ofNat]; omega
  exact { h with sizePos := hsize.symm ▸ hlo, sizeMax := hsize.symm ▸ hhi }

/-- A bus command presented alone leaves the engine idle. -/
theorem inv_of_frame {t : State} (ht : t.Sound) (h : s.Inv) (hb : t.busy = s.busy) (hq : t.seq = s.seq) : t.Inv := by
  obtain ⟨_, hbusy, hseq⟩ := (inv_iff s).mp h
  exact (inv_iff t).mpr ⟨ht, hb.trans hbusy, hq.trans hseq⟩

/-- Every instruction keeps the invariant. -/
theorem exec_keeps_inv (i : Instr) (s t : State) (hcfg : configOk s.cfg = true) (h : s.Inv) (ht : exec i s = .next t) : t.Inv := by
  have hs : s.Sound := ((inv_iff s).mp h).1
  have hu (op : HostOp) : (accept op s).Sound := hs.accept op
  have hcall : s.callLen.val ≤ 32 := Nat.le_of_lt_succ s.callLen.isLt
  cases i with
  | readRegister addr => cases ht; exact inv_of_frame (hs.regReadBlock addr _ hcall) h (by simp) (by simp)
  | writeRegister addr =>
    cases ht
    exact inv_of_frame (hs.regWriteBlock addr _ ((List.length_take_le _ _).trans hcall)) h (by simp) (by simp)
  | readRxPayload => cases ht; exact inv_of_frame (hs.cmd 0x61 _ (by simpa using hs.sizeMax)) h (by simp) (by simp)
  | writeTxPayload =>
    cases ht
    have hlen := framedPayload_length s.hdata _ s.payloadSize (Nat.min_le_right s.callLen.val _) hs.sizeMax
    exact inv_of_frame (hs.cmd 0xA0 _ (hlen.trans_le hs.sizeMax)) h (by simp) (by simp)
  | flushTx => cases ht; exact inv_of_frame (hs.cmd 0xE1 [] (by decide)) h (by simp) (by simp)
  | flushRx => cases ht; exact inv_of_frame (hs.cmd 0xE2 [] (by decide)) h (by simp) (by simp)
  | reuseTxPayload => cases ht; exact inv_of_frame (hs.cmd 0xE3 [] (by decide)) h (by simp) (by simp)
  | nop => cases ht; exact inv_of_frame (hs.cmd 0xFF [] (by decide)) h (by simp) (by simp)
  | init => cases ht; exact keepDeviceIf_inv (finish_inv (hu _).initBody true) _
  | setTxMode => cases ht; exact keepDeviceIf_inv (finish_inv (hu _).txModeBody true) _
  | setRxMode => cases ht; exact keepDeviceIf_inv (finish_inv (hu _).rxModeBody true) _
  | transmit arg => cases ht; exact keepDeviceIf_inv (pollLoop_inv _ ((hu _).loadAndFire arg)) _
  | receive => cases ht; exact keepDeviceIf_inv (receiveBody_inv (hu _)) _
  | setChannel => cases ht; exact keepDeviceIf_inv (finish_inv ((hu _).regWrite _ _) true) _
  | setPayloadSize arg =>
    have hsize := setPayloadSize_sound (hu .setPayloadSize) arg hcfg
    cases ht
    exact keepDeviceIf_inv (finish_inv (hsize.regWrite 0x11 (BitVec.ofNat 8 (clampedSize s.cfg arg))) true) _
  | setAddress =>
    have hlen : (addressOf s.cfg s.hdata).length ≤ 32 := (List.length_take_le' _ _).trans_eq (Vector.length_toList)
    cases ht; exact keepDeviceIf_inv (finish_inv (((hu _).regWriteBlock 0x10 _ hlen).regWriteBlock 0x0A _ hlen) true) _
  | getStatus =>
    have hq := (hu .getStatus).cmd 0xFF [] (by decide)
    cases ht
    exact keepDeviceIf_inv (finish_inv { hq with } true) _
  | powerUp => cases ht; exact keepDeviceIf_inv (finish_inv (hu _).powerUpBody true) _
  | powerDown => cases ht; exact keepDeviceIf_inv (finish_inv (hu _).powerDownBody true) _

/-- Reset gives the invariant from any disciplined trace, cut inside a frame too: its first event is a deselection (R230, R231). -/
theorem resetEngine_inv (lvl : Bool) (hcfg : configOk s.cfg = true) (hregs : Memory.wf s.dev.regs = true)
    (htrace : selectLevel true s.trace = some lvl) : (resetEngine s).Inv := by
  obtain ⟨_, _, hdefault, _⟩ := configOk_spec s.cfg hcfg
  have hsize : (resetEngine s).payloadSize = 32 := by rw [resetEngine, hdefault]; rfl
  have hend : selectLevel true (resetEngine s).trace = some true := by
    have e : (resetEngine s).trace = s.trace ++ [.desel, .ce0] := rfl
    rw [e, selectLevel_append, htrace]
    cases lvl <;> rfl
  exact ⟨by rw [hsize]; decide, by rw [hsize]; decide, rfl, rfl, rfl, hregs, hend, Nat.zero_le _, Nat.zero_le _, Nat.zero_le _⟩

theorem resetInside_inv (events : Nat) (s t : State) (hcfg : configOk t.cfg = true) (h : t.Inv) : (resetInside events s t).Inv := by
  obtain ⟨lvl, hcut⟩ := selectLevel_take true true t.trace (s.trace.length + events) ((inv_iff t).mp h).1.disciplined
  exact resetEngine_inv lvl hcfg (freeDevice_wf _) hcut

/-- A code that is run is an instruction of the table, executed. -/
theorem runCode_next (c : Code) (s t : State) (h : runCode c s = .next t) : ∃ i, exec i s = .next t := by
  unfold runCode at h
  split at h
  · split at h
    · cases h
    · exact ⟨_, h⟩
  · cases h

/-- What a step that answers a next state is, by the host's move (R214, R230, R231): the engine did nothing, was reset, ran an instruction
on the inputs presented, or was reset inside it. -/
theorem step_cases (s t : State) (h : step s = .next t) : configOk s.cfg = true ∧
    (t = s ∨ t = resetEngine (nextMove s).2 ∨ ∃ (i : Instr) (len : Fin 33) (data : Vector Byte 32) (u : State),
      exec i (presented len data (nextMove s).2) = .next u ∧ (t = u ∨ ∃ events, t = resetInside events (nextMove s).2 u)) := by
  unfold step at h
  split at h
  · cases h
  · split at h
    · rename_i hcfg
      refine ⟨hcfg, ?_⟩
      split at h
      · cases h; exact .inl rfl
      · rename_i hm; cases h; exact .inr (.inl (by rw [hm]))
      · rename_i c len data s1 hm
        obtain ⟨i, hi⟩ := runCode_next _ _ _ h
        exact .inr (.inr ⟨i, len, data, t, by rw [hm]; exact hi, .inl rfl⟩)
      · rename_i c len data events s1 hm
        split at h
        · rename_i u hu
          obtain ⟨i, hi⟩ := runCode_next _ _ _ hu
          cases h
          exact .inr (.inr ⟨i, len, data, u, by rw [hm]; exact hi, .inr ⟨events, by rw [hm]⟩⟩)
        · cases h
        · cases h
    · cases h

/-- Settles O47: each case of a step keeps the invariant; what the host presents is no part of it. -/
theorem stepKeepsInvariant : Obligations.StepKeepsInvariant := by
  intro s t h ht
  obtain ⟨hcfg, rfl | rfl | ⟨i, len, data, u, hexec, hend⟩⟩ := step_cases s t ht
  · exact h
  · obtain ⟨hs, _⟩ := (inv_iff s).mp h
    exact resetEngine_inv true hcfg hs.canonical hs.disciplined
  · have hu : u.Inv := exec_keeps_inv i (presented len data (nextMove s).2) u hcfg h hexec
    obtain rfl | ⟨events, rfl⟩ := hend
    · exact hu
    · obtain ⟨_, _, _, hc, _⟩ := exec_sameInputs hexec
      exact resetInside_inv events _ u (by rw [hc]; exact hcfg) hu

/-- Settles O46: every clause computes; the ranges rest on log 2's zeros. -/
theorem invariantAtReset : Obligations.InvariantAtReset := by
  unfold Obligations.InvariantAtReset
  decide

/-! ## The values after reset and the mode table -/

/-- Settles O10, by the values of `State.reset`. -/
theorem resetValues : Obligations.ResetValues := by
  unfold Obligations.ResetValues
  decide

/-- Settles O24, row by row. -/
theorem modeTable : Obligations.ModeTable := fun _ _ => ⟨rfl, rfl, rfl, rfl, rfl, rfl, rfl, rfl, rfl, rfl⟩

end Sys2Proof.Machine
end

section
/-! Register writes and reads presented alone (R24, R37, R38, R104 to R107). -/

namespace Sys2Proof.Machine

/-! ## The operand bytes -/

theorem length_take_hdata (hdata : Vector Byte 32) (n : Fin 33) : (hdata.toList.take n.val).length = n.val := by
  rw [List.length_take, Vector.length_toList]
  omega

/-- A block of at least one byte begins with the first byte of `HDATA`. -/
theorem take_hdata_cons (hdata : Vector Byte 32) (n : Fin 33) (h : n ≠ 0) : ∃ vs, hdata.toList.take n.val = hdata[0] :: vs := by
  have hn : 0 < n.val := Fin.pos_iff_ne_zero.mpr h
  have hpos : 0 < (hdata.toList.take n.val).length := by rw [length_take_hdata]; exact hn
  obtain ⟨v, vs, hv⟩ := List.exists_cons_of_length_pos hpos
  have h0 : (hdata.toList.take n.val)[0] = hdata[0] := by simp
  simp only [hv, List.getElem_cons_zero] at h0
  exact ⟨vs, h0 ▸ hv⟩

/-! ## What a register write does in the device -/

variable (a : Byte) (bs : List Byte) (s : State)

/-- Byte `i` written to a register with room for it is byte `i` of the register (R107). -/
theorem regWriteBlock_devReg (hr : reservedAddr (a.setWidth 5) = false) (hw : bs.length ≤ (regWidth (a.setWidth 5)).getD 32)
    (h7 : a.setWidth 5 ≠ (0x07 : BitVec 5)) (hm : Memory.wf s.dev.regs = true) (i : Nat) (hi : i < bs.length) :
    (regWriteBlock a bs s).devReg (a.setWidth 5) i = bs.getD i 0 := by
  rw [State.devReg, regWriteBlock_regs a bs s hr hw h7, memory_read_writeAll _ _ _ _ hm, if_pos (by simp only [cellOf]; omega)]
  simp [cellOf]

/-- No other cell changes. -/
theorem regWriteBlock_sameCells (hr : reservedAddr (a.setWidth 5) = false) (hw : bs.length ≤ (regWidth (a.setWidth 5)).getD 32)
    (h7 : a.setWidth 5 ≠ (0x07 : BitVec 5)) (hm : Memory.wf s.dev.regs = true) :
    SameCells s (regWriteBlock a bs s) ((List.range bs.length).map (cellOf (a.setWidth 5))) := by
  intro c hc
  rw [regWriteBlock_regs a bs s hr hw h7, memory_read_writeAll _ _ _ _ hm, if_neg]
  rintro ⟨hlo, hhi⟩
  simp only [cellOf] at hlo hhi
  exact hc (List.mem_map.mpr ⟨c - 32 * (a.setWidth 5).toNat, List.mem_range.mpr (by omega), by simp only [cellOf]; omega⟩)

/-- A write of no byte takes no effect, at any address (R107). -/
theorem regWriteBlock_nil_dev : (regWriteBlock a [] s).dev = (frameOf (writeByte a) [] s).dev := by
  simp [regWriteBlock, cmd_eq, deviceActs, decodeBus_writeByte, registerWritten]

/-- A one-byte write is a clearing write for every operand that masks to 0x07 (R62, R114). -/
theorem regWriteBlock_status (v : Byte) (h : a.setWidth 5 = (0x07 : BitVec 5)) : regWriteBlock a [v] s = clearFlags v s := by
  have hmask : ∀ a : Byte, a.setWidth 5 = (0x07 : BitVec 5) → a &&& 0x1F = 0x07 &&& 0x1F := by decide
  simp only [clearFlags, regWrite, regWriteBlock, writeByte, shadowWrite, hmask a h]

/-! ## Clearing flags -/

/-- A clearing write clears the flags whose bit is 1 (R37, R114). -/
theorem clearFlags_clears (v : Byte) (hcfg : configOk s.cfg = true) :
    (v.getLsbD 6 = true → (clearFlags v s).dev.flags.dataReady = false) ∧
    (v.getLsbD 5 = true → (clearFlags v s).dev.flags.dataSent = false) ∧
    (v.getLsbD 4 = true → (clearFlags v s).dev.flags.maxRt = false) := by
  obtain ⟨g, hg⟩ := clearFlags_flags v s
  obtain ⟨h6, h5, h4⟩ := statusBits_of_configOk s.cfg v hcfg
  simp +contextual [hg, clearedBy, h6, h5, h4]

/-- It keeps those set whose bit is 0. -/
theorem clearFlags_keeps (v : Byte) (hcfg : configOk s.cfg = true) : KeepsFlagsBut v s (clearFlags v s) := by
  obtain ⟨g, hg⟩ := clearFlags_flags v s
  obtain ⟨h6, h5, h4⟩ := statusBits_of_configOk s.cfg v hcfg
  simp +contextual [KeepsFlagsBut, hg, clearedBy, orFlags, h6, h5, h4]

/-! ## The shadows -/

/-- A block written to register 0x00 sets the shadows from its first byte (R24, log 22). -/
theorem regWriteBlock_shadows_zero (v : Byte) (vs : List Byte) (h : a.setWidth 5 = (0x00 : BitVec 5)) :
    (regWriteBlock a (v :: vs) s).pwrS = v.getLsbD s.cfg.powerBit ∧ (regWriteBlock a (v :: vs) s).rxS = v.getLsbD s.cfg.rxmodeBit := by
  have hmask : ∀ a : Byte, a.setWidth 5 = (0x00 : BitVec 5) → a &&& 0x1F = 0 := by decide
  simp [regWriteBlock, shadowWrite_cons a v vs _ (hmask a h)]

/-- A write of no byte, or to another register, leaves them (R24). -/
theorem regWriteBlock_shadows_same (h : a.setWidth 5 ≠ (0x00 : BitVec 5) ∨ bs = []) : SameShadows s (regWriteBlock a bs s) := by
  have hsame : shadowWrite a bs (cmd (writeByte a) bs s) = cmd (writeByte a) bs s := by
    obtain h | rfl := h
    · have hmask : ∀ a : Byte, a &&& 0x1F = 0 → a.setWidth 5 = (0x00 : BitVec 5) := by decide
      exact shadowWrite_other a bs _ (fun h0 => h (hmask a h0))
    · rfl
  simp [SameShadows, regWriteBlock, hsame]

/-! ## The statements -/

/-- Settles O15, clause by clause: a register with room, no byte, the status register, and the shadows. -/
theorem writeRegisterCompletes : Obligations.WriteRegisterCompletes := by
  intro s a hm
  have hlen := length_take_hdata s.hdata s.callLen
  obtain ⟨ins, hins, htrace, hidx, _, hcsn⟩ := regWriteBlock_spec a (s.hdata.toList.take s.callLen.val) s
  refine ⟨regWriteBlock a (s.hdata.toList.take s.callLen.val) s, _, ins, rfl, hins.trans hlen, htrace, rfl, hcsn, ?idx, ?frame,
    fun hr hw h7 => ?stored, fun h0 => ?nothing, fun hcfg h7 h1 => ?status, ?shadows⟩
  case idx => rw [hidx, hlen, BitVec.toNat_ofNat]; omega
  case frame => simp [BusFrame, SameResults, SameInputs]
  case stored =>
    rw [← hlen] at hw
    obtain ⟨g, hg⟩ := regWriteBlock_flags a _ s hr hw h7
    refine ⟨fun i hi => ?_, keepsFlags_of_orFlags _ _ g hg, ?_⟩
    · rw [regWriteBlock_devReg a _ s hr hw h7 hm i (by rwa [hlen])]
      simp [List.getD_eq_getElem?_getD, hi]
    · simpa only [hlen] using regWriteBlock_sameCells a _ s hr hw h7 hm
  case nothing =>
    obtain ⟨⟨g, hg⟩, _⟩ := frameOf_device (writeByte a) [] s
    have hnil : s.hdata.toList.take s.callLen.val = [] := by simp [h0]
    rw [hnil]
    exact ⟨fun c _ => by rw [regWriteBlock_nil_dev, frameOf_regs],
      keepsFlags_of_orFlags _ _ g (by rw [regWriteBlock_nil_dev, hg])⟩
  case status =>
    obtain ⟨vs, hvs⟩ := take_hdata_cons s.hdata s.callLen (by simp [h1])
    rw [hvs, h1] at hlen
    have hnil : vs = [] := List.length_eq_zero_iff.mp (Nat.succ.inj hlen)
    rw [hvs, hnil, regWriteBlock_status a s _ h7]
    obtain ⟨h6, h5, h4⟩ := clearFlags_clears s s.hdata[0] hcfg
    exact ⟨fun c _ => by rw [clearFlags_regs], h6, h5, h4, clearFlags_keeps s _ hcfg⟩
  case shadows =>
    split_ifs with h
    · obtain ⟨vs, hvs⟩ := take_hdata_cons s.hdata s.callLen h.2
      rw [hvs]
      exact regWriteBlock_shadows_zero a s _ vs h.1
    · refine regWriteBlock_shadows_same a _ s ?_
      by_cases ha : a.setWidth 5 = (0x00 : BitVec 5)
      · have h0 : s.callLen = 0 := by_contra fun hn => h ⟨ha, hn⟩
        exact .inr (by simp [h0])
      · exact .inl ha

/-- A register the engine writes is neither reserved nor the status register, and its width is given (R36). -/
theorem storesBytes_spec (b : BitVec 5) (h : storesBytes b = true) :
    reservedAddr b = false ∧ b ≠ 0x07 ∧ (regWidth b).getD 0 = (regWidth b).getD 32 := by
  revert b
  decide

/-- Settles O18: the bytes a trusted read returns are the cells, and those hold the bytes written. -/
theorem readReturnsWhatWasWritten : Obligations.ReadReturnsWhatWasWritten := by
  intro s t u a hc hi hm hs hw ht hu
  cases ht
  cases hu
  have hlen := length_take_hdata s.hdata s.callLen
  obtain ⟨hr, h7, hwidth⟩ := storesBytes_spec _ hs
  have htrust : (regWriteBlock a (s.hdata.toList.take s.callLen.val) s).trusts = true := by simp [State.trusts, hc, hi]
  have hcall : (regWriteBlock a (s.hdata.toList.take s.callLen.val) s).callLen = s.callLen := by simp
  rw [hcall, regReadBlock_trusted a _ _ hs htrust hw]
  refine List.ext_getElem (by simp [hlen]) fun i hi hi' => ?_
  rw [List.getElem_map, List.getElem_range, regWriteBlock_devReg a _ s hr (hlen.trans_le (hw.trans_eq hwidth)) h7 hm i hi',
    List.getD_eq_getElem _ _ hi']

end Sys2Proof.Machine
end

section
/-! The engine before INIT (R26, R236). `SameEngine` relates two states that differ in nothing but `inited`, `conforming` and the device,
neither of which trusts its device. Every reply is then the oracle's, so every named operation but INIT's end keeps the two in step. -/

namespace Sys2Proof.Machine

/-- The two engines are in the same state, and neither takes its device's state for what the device answers. -/
structure SameEngine (s t : State) : Prop where
  oracle : s.trusts = false
  oracle' : t.trusts = false
  same : ∃ (b c : Bool) (d : Device), t = { s with inited := b, conforming := c, dev := d }

/-! ## Where the device is an oracle -/

/-- The end of an operation changes nothing about it: after INIT the device is trusted as it was during it. -/
@[simp] theorem finish_trusts (b : Bool) (s : State) : (finish b s).trusts = s.trusts := by simp [State.trusts]

/-- The status byte then is the oracle's (R66). -/
theorem xferCommand_oracle (c : Byte) (s : State) (h : s.trusts = false) : xferCommand c s =
    emit (.x c s.answer.byte) { takeAnswer s with statusL := s.answer.byte, idx := 0, dataIn := [] } := by
  have h' : (takeAnswer s).trusts = false := h
  simp [xferCommand, statusReply, h']

/-- So is each byte of the data phase. -/
theorem xferData_oracle (c x : Byte) (s : State) (h : s.trusts = false) : xferData c x s =
    emit (.x x s.answer.byte) { takeAnswer s with dataIn := s.dataIn ++ [s.answer.byte], idx := s.idx + 1 } := by
  have h' : (takeAnswer s).trusts = false := h
  simp [xferData, dataReply, h']

/-- A register write's effect is the device's alone. -/
theorem registerWritten_eq (a : BitVec 5) (out : List Byte) (s : State) :
    registerWritten a out s = { s with dev := (registerWritten a out s).dev } := by
  unfold registerWritten
  split
  · rfl
  · split_ifs <;> rfl

/-- So is every transaction's. -/
theorem deviceActs_eq (c : Byte) (out : List Byte) (s : State) : deviceActs c out s = { s with dev := (deviceActs c out s).dev } := by
  unfold deviceActs
  split
  case h_2 => exact registerWritten_eq _ _ _
  case h_3 => split_ifs <;> rfl
  all_goals rfl

namespace SameEngine

variable {s t : State}

theorem statusL (h : SameEngine s t) : t.statusL = s.statusL := by obtain ⟨_, _, _, _, _, rfl⟩ := h; rfl
theorem dataIn (h : SameEngine s t) : t.dataIn = s.dataIn := by obtain ⟨_, _, _, _, _, rfl⟩ := h; rfl
theorem cfg (h : SameEngine s t) : t.cfg = s.cfg := by obtain ⟨_, _, _, _, _, rfl⟩ := h; rfl
theorem payloadSize (h : SameEngine s t) : t.payloadSize = s.payloadSize := by obtain ⟨_, _, _, _, _, rfl⟩ := h; rfl
theorem hdata (h : SameEngine s t) : t.hdata = s.hdata := by obtain ⟨_, _, _, _, _, rfl⟩ := h; rfl
theorem deadlinePassed (h : SameEngine s t) : t.deadlinePassed = s.deadlinePassed := by obtain ⟨_, _, _, _, _, rfl⟩ := h; rfl

/-! ## The named operations -/

/-- An update that neither reads nor writes what the two states differ in. -/
theorem update (h : SameEngine s t) (f : State → State)
    (hf : ∀ u b c d, f { u with inited := b, conforming := c, dev := d } = { f u with inited := b, conforming := c, dev := d })
    (htrust : ∀ u, (f u).trusts = u.trusts) : SameEngine (f s) (f t) := by
  refine ⟨(htrust s).trans h.oracle, (htrust t).trans h.oracle', ?_⟩
  obtain ⟨_, _, b, c, d, rfl⟩ := h
  exact ⟨b, c, d, hf s b c d⟩

theorem setCSN (h : SameEngine s t) (b : Bool) : SameEngine (setCSN b s) (setCSN b t) :=
  h.update _ (fun _ _ _ _ => rfl) (fun _ => rfl)

theorem holdCSN (h : SameEngine s t) : SameEngine (holdCSN s) (holdCSN t) :=
  h.update _ (fun _ _ _ _ => rfl) (fun _ => rfl)

theorem setCE (h : SameEngine s t) (b : Bool) : SameEngine (setCE b s) (setCE b t) :=
  h.update _ (fun _ _ _ _ => rfl) (fun _ => rfl)

theorem wait (h : SameEngine s t) (n : Nat) : SameEngine (wait n s) (wait n t) :=
  h.update _ (fun _ _ _ _ => rfl) (fun _ => rfl)

theorem readNow (h : SameEngine s t) : SameEngine (readNow s) (readNow t) :=
  h.update _ (fun _ _ _ _ => rfl) (fun _ => rfl)

theorem startTimer (h : SameEngine s t) : SameEngine (startTimer s) (startTimer t) :=
  h.update _ (fun _ _ _ _ => rfl) (fun _ => rfl)

theorem poweredDown (h : SameEngine s t) : SameEngine (poweredDown s) (poweredDown t) := by
  obtain ⟨hs, ht, b, c, d, rfl⟩ := h; exact ⟨hs, ht, b, c, _, rfl⟩

theorem keepDeviceIf (h : SameEngine s t) (k k' : Bool) : SameEngine (keepDeviceIf k s) (keepDeviceIf k' t) := by
  obtain ⟨hs, ht, b, c, d, rfl⟩ := h; exact ⟨hs, ht, b, c, _, rfl⟩

theorem finish (h : SameEngine s t) (b : Bool) : SameEngine (finish b s) (finish b t) := by
  obtain ⟨hs, ht, _, c, d, rfl⟩ := h
  exact ⟨(finish_trusts b _).trans hs, (finish_trusts b _).trans ht, _, c, d, rfl⟩

/-- No operation but INIT is trusted while it runs if the state it starts in is not. -/
theorem accept (h : SameEngine s t) (op : HostOp) (hop : op ≠ .init) : SameEngine (accept op s) (accept op t) := by
  have huntrusted (u : State) (hu : u.trusts = false) : (Machine.accept op u).trusts = false := by
    simp only [State.trusts, Bool.and_eq_false_iff, Bool.or_eq_false_iff] at hu
    simp only [State.trusts, accept_conforming, accept_inited, accept_seq, Bool.and_eq_false_iff, Bool.or_eq_false_iff]
    exact hu.imp_right fun hi => ⟨hi.1, by simp [hop]⟩
  refine ⟨huntrusted s h.oracle, huntrusted t h.oracle', ?_⟩
  obtain ⟨_, _, b, c, d, rfl⟩ := h
  exact ⟨b, c, d, rfl⟩

theorem xferCommand (h : SameEngine s t) (c : Byte) : SameEngine (xferCommand c s) (xferCommand c t) := by
  refine ⟨h.oracle, h.oracle', ?_⟩
  rw [xferCommand_oracle c s h.oracle, xferCommand_oracle c t h.oracle']
  obtain ⟨_, _, b, c, d, rfl⟩ := h
  exact ⟨b, c, _, rfl⟩

theorem xferAll (h : SameEngine s t) (c : Byte) (ts : List Byte) : SameEngine (xferAll c ts s) (xferAll c ts t) := by
  induction ts generalizing s t with
  | nil => exact h
  | cons x ts ih =>
    refine ih ⟨h.oracle, h.oracle', ?_⟩
    rw [xferData_oracle c x s h.oracle, xferData_oracle c x t h.oracle']
    obtain ⟨_, _, b, c, d, rfl⟩ := h
    exact ⟨b, c, _, rfl⟩

theorem deviceActs (h : SameEngine s t) (c : Byte) (out : List Byte) : SameEngine (deviceActs c out s) (deviceActs c out t) := by
  rw [deviceActs_eq c out s, deviceActs_eq c out t]
  obtain ⟨hs, ht, b, c, d, rfl⟩ := h
  exact ⟨hs, ht, b, c, _, rfl⟩

theorem cmd (h : SameEngine s t) (c : Byte) (out : List Byte) : SameEngine (cmd c out s) (cmd c out t) :=
  ((((((h.setCSN false).holdCSN).xferCommand c).xferAll c out).holdCSN).setCSN true).deviceActs c out

theorem shadowWrite (h : SameEngine s t) (a : Byte) (bs : List Byte) : SameEngine (shadowWrite a bs s) (shadowWrite a bs t) := by
  cases bs with
  | nil => exact h
  | cons v vs =>
    by_cases ha : a &&& 0x1F = 0
    · rw [shadowWrite_cons a v vs s ha, shadowWrite_cons a v vs t ha]
      exact h.update _ (fun _ _ _ _ => rfl) (fun _ => rfl)
    · rw [shadowWrite_other a _ s ha, shadowWrite_other a _ t ha]
      exact h

theorem regReadBlock (h : SameEngine s t) (a : Byte) (n : Nat) : SameEngine (regReadBlock a n s) (regReadBlock a n t) := by
  rw [Machine.regReadBlock, Machine.regReadBlock, h.cfg]
  exact h.cmd _ _

theorem regWriteBlock (h : SameEngine s t) (a : Byte) (bs : List Byte) : SameEngine (regWriteBlock a bs s) (regWriteBlock a bs t) :=
  (h.cmd _ bs).shadowWrite a bs

theorem statusQuery (h : SameEngine s t) : SameEngine (statusQuery s) (statusQuery t) := h.cmd 0xFF []

theorem flushTxFifo (h : SameEngine s t) : SameEngine (flushTxFifo s) (flushTxFifo t) := h.cmd 0xE1 []

theorem clearFlags (h : SameEngine s t) (m : Byte) : SameEngine (clearFlags m s) (clearFlags m t) := h.regWriteBlock 0x07 [m]

theorem cfgUpdate (h : SameEngine s t) (set clr : Byte) : SameEngine (cfgUpdate set clr s) (cfgUpdate set clr t) := by
  have hr : SameEngine (regRead 0x00 s) (regRead 0x00 t) := h.regReadBlock 0x00 1
  rw [cfgUpdate_eq, cfgUpdate_eq, cfgWritten, cfgWritten, cfgRead, cfgRead, State.readValue, State.readValue, hr.dataIn]
  exact hr.regWriteBlock _ _

/-! ## The bodies -/

theorem txModeBody (h : SameEngine s t) : SameEngine (txModeBody s) (txModeBody t) := by
  rw [Machine.txModeBody, Machine.txModeBody, h.cfg]
  exact ((h.cfgUpdate _ _).setCE _).wait _

theorem rxModeBody (h : SameEngine s t) : SameEngine (rxModeBody s) (rxModeBody t) := by
  rw [Machine.rxModeBody, Machine.rxModeBody, h.cfg]
  exact ((h.cfgUpdate _ _).setCE _).wait _

theorem powerUpBody (h : SameEngine s t) : SameEngine (powerUpBody s) (powerUpBody t) := by
  rw [Machine.powerUpBody, Machine.powerUpBody, h.cfg]
  exact (h.cfgUpdate _ _).wait _

theorem powerDownBody (h : SameEngine s t) : SameEngine (powerDownBody s) (powerDownBody t) := by
  rw [Machine.powerDownBody, Machine.powerDownBody, h.cfg]
  exact (h.cfgUpdate _ _).poweredDown

theorem pulseCE (h : SameEngine s t) : SameEngine (pulseCE s) (pulseCE t) := by
  rw [Machine.pulseCE, Machine.pulseCE, h.cfg]
  exact ((h.setCE true).wait _).setCE false

theorem loadAndFire (h : SameEngine s t) (arg : Byte) : SameEngine (loadAndFire arg s) (loadAndFire arg t) := by
  rw [Machine.loadAndFire, Machine.loadAndFire, h.hdata, h.payloadSize]
  exact (h.txModeBody.flushTxFifo.cmd 0xA0 _).pulseCE.startTimer

theorem pollLoop (h : SameEngine s t) (k : Nat) : SameEngine (pollLoop k s) (pollLoop k t) := by
  induction k generalizing s t with
  | zero => exact h.readNow.finish false
  | succ k ih =>
    have hq := h.readNow.statusQuery
    rw [pollLoop_succ, pollLoop_succ, h.readNow.deadlinePassed, hq.statusL, h.cfg]
    split_ifs
    · exact h.readNow.finish false
    · rw [successExit, successExit, hq.cfg]
      exact (hq.clearFlags _).finish true
    · rw [maxRtExit, maxRtExit, hq.cfg]
      exact (hq.clearFlags _).flushTxFifo.finish false
    · exact ih (hq.wait _)

theorem readPayload (h : SameEngine s t) : SameEngine (readPayload s) (readPayload t) := by
  have hlen := h.update (fun u => { u with rxlen := s.payloadSize }) (fun _ _ _ _ => rfl) (fun _ => rfl)
  have hread := hlen.cmd 0x61 (List.replicate s.payloadSize.toNat s.cfg.fill)
  have hstore := hread.update (fun u => { u with rxbuf := storeFrom 0 u.dataIn u.rxbuf }) (fun _ _ _ _ => rfl) (fun _ => rfl)
  obtain ⟨_, _, _, _, _, rfl⟩ := h
  exact (hstore.clearFlags _).finish true

theorem receiveBody (h : SameEngine s t) : SameEngine (receiveBody s) (receiveBody t) := by
  have hq := h.rxModeBody.statusQuery
  simp only [Machine.receiveBody, hq.cfg, hq.statusL]
  split
  · exact hq.readPayload
  · exact hq.finish false

end SameEngine

/-! ## The statement -/

/-- An instruction other than INIT ends in the one state where it ends in the other, and keeps the two in step. -/
theorem exec_sameEngine {i : Instr} {s t s' : State} (h : SameEngine s t) (hi : ∀ arg, i ≠ .init arg) (hs : exec i s = .next s') :
    ∃ t', exec i t = .next t' ∧ SameEngine s' t' := by
  have ha (op : HostOp) (hop : op ≠ .init) : SameEngine (accept op s) (accept op t) := h.accept op hop
  obtain ⟨_, _, _, _, _, rfl⟩ := h.same
  cases i
  case init arg => exact absurd rfl (hi arg)
  case readRegister addr => cases hs; exact ⟨_, rfl, h.regReadBlock _ _⟩
  case writeRegister addr => cases hs; exact ⟨_, rfl, h.regWriteBlock _ _⟩
  case readRxPayload => cases hs; exact ⟨_, rfl, h.cmd _ _⟩
  case writeTxPayload => cases hs; exact ⟨_, rfl, h.cmd _ _⟩
  case flushTx => cases hs; exact ⟨_, rfl, h.flushTxFifo⟩
  case flushRx => cases hs; exact ⟨_, rfl, h.cmd 0xE2 []⟩
  case reuseTxPayload => cases hs; exact ⟨_, rfl, h.cmd 0xE3 []⟩
  case nop => cases hs; exact ⟨_, rfl, h.statusQuery⟩
  case setTxMode => cases hs; exact ⟨_, rfl, ((ha .setTxMode (by decide)).txModeBody.finish true).keepDeviceIf _ _⟩
  case setRxMode => cases hs; exact ⟨_, rfl, ((ha .setRxMode (by decide)).rxModeBody.finish true).keepDeviceIf _ _⟩
  case transmit arg => cases hs; exact ⟨_, rfl, (((ha .transmit (by decide)).loadAndFire arg).pollLoop _).keepDeviceIf _ _⟩
  case receive => cases hs; exact ⟨_, rfl, (ha .receive (by decide)).receiveBody.keepDeviceIf _ _⟩
  case setChannel arg =>
    have hw := (ha .setChannel (by decide)).regWriteBlock 0x05 [channelOf s.cfg arg]
    cases hs
    exact ⟨_, rfl, (hw.finish true).keepDeviceIf _ _⟩
  case setPayloadSize arg =>
    have hp := (ha .setPayloadSize (by decide)).update
      (fun u => { u with payloadSize := BitVec.ofNat 6 (clampedSize s.cfg arg) }) (fun _ _ _ _ => rfl) (fun _ => rfl)
    have hw := hp.regWriteBlock 0x11 [BitVec.ofNat 8 (clampedSize s.cfg arg)]
    cases hs
    exact ⟨_, rfl, (hw.finish true).keepDeviceIf _ _⟩
  case setAddress =>
    have hw := ((ha .setAddress (by decide)).regWriteBlock 0x10 (addressOf s.cfg s.hdata)).regWriteBlock 0x0A (addressOf s.cfg s.hdata)
    cases hs
    exact ⟨_, rfl, (hw.finish true).keepDeviceIf _ _⟩
  case getStatus =>
    have hb := (ha .getStatus (by decide)).statusQuery.update (fun u => { u with rbyte := u.statusL })
      (fun _ _ _ _ => rfl) (fun _ => rfl)
    cases hs
    exact ⟨_, rfl, (hb.finish true).keepDeviceIf _ _⟩
  case powerUp => cases hs; exact ⟨_, rfl, ((ha .powerUp (by decide)).powerUpBody.finish true).keepDeviceIf _ _⟩
  case powerDown => cases hs; exact ⟨_, rfl, ((ha .powerDown (by decide)).powerDownBody.finish true).keepDeviceIf _ _⟩

/-- Settles O54: before INIT no device is trusted, and after it an oracle is not, so the two runs stay in step. -/
theorem engineRunsUnchangedBeforeInit : Obligations.EngineRunsUnchangedBeforeInit := by
  intro i s t hs hi _ ht
  have hstart : SameEngine { s with inited := true, conforming := false } { s with inited := false } := by
    refine ⟨rfl, ?_, false, s.conforming, s.dev, rfl⟩
    obtain hc | hq := hs
    · simp [State.trusts, hc]
    · simp [State.trusts, hq]
  obtain ⟨u, hu, _, _, b, c, d, hsame⟩ := exec_sameEngine hstart hi ht
  have hinited : u.inited = false := exec_inited hu hi
  obtain ⟨_, _, _, _, hconforming, _⟩ := exec_sameInputs hu
  subst hsame
  refine ⟨_, hu, ?_⟩
  cases hinited
  cases hconforming
  rfl
end Sys2Proof.Machine
end

section
/-! TRANSMIT up to its first status byte, and its three exits where the first deadline test or the first status byte decides
(R160 to R168). -/

namespace Sys2Proof.Machine

variable {s t u : State}

/-! ## Flags along a sequence (R34) -/

theorem keepsFlags_trans (h : KeepsFlags s t) (h' : KeepsFlags t u) : KeepsFlags s u :=
  ⟨fun hs => h'.1 (h.1 hs), fun hs => h'.2.1 (h.2.1 hs), fun hs => h'.2.2 (h.2.2 hs)⟩

theorem keepsFlagsBut_after {m : Byte} (h : KeepsFlags s t) (h' : KeepsFlagsBut m t u) : KeepsFlagsBut m s u :=
  ⟨fun hm hs => h'.1 hm (h.1 hs), fun hm hs => h'.2.1 hm (h.2.1 hs), fun hm hs => h'.2.2 hm (h.2.2 hs)⟩

theorem keepsFlagsBut_before {m : Byte} (h : KeepsFlagsBut m s t) (h' : KeepsFlags t u) : KeepsFlagsBut m s u :=
  ⟨fun hm hs => h'.1 (h.1 hm hs), fun hm hs => h'.2.1 (h.2.1 hm hs), fun hm hs => h'.2.2 (h.2.2 hm hs)⟩

theorem statusQuery_keepsFlags (s : State) : KeepsFlags s (statusQuery s) := by
  obtain ⟨g, hg⟩ := statusQuery_flags s
  exact keepsFlags_of_orFlags _ _ g hg

theorem flushTxFifo_keepsFlags (s : State) : KeepsFlags s (flushTxFifo s) := by
  obtain ⟨g, hg⟩ := flushTxFifo_flags s
  exact keepsFlags_of_orFlags _ _ g hg

theorem cfgUpdate_keepsFlags (set clr : Byte) (s : State) : KeepsFlags s (cfgUpdate set clr s) := by
  obtain ⟨g, hg⟩ := cfgUpdate_flags set clr s
  exact keepsFlags_of_orFlags _ _ g hg

/-- With a quiet radio a flush leaves the flags as they were (R110). -/
theorem flushTxFifo_quiet (s : State) (h : s.QuietFor 1) : (flushTxFifo s).dev.flags = s.dev.flags := by
  have hdecode : decodeBus 0xE1 = some .flushTx := by decide
  have hquiet := frameOf_quiet 0xE1 [] s h
  simp only [flushTxFifo, cmd_eq, deviceActs, hdecode, hquiet]

/-! ## The load -/

/-- TRANSMIT up to the end of the load (R160 to R162): the mode switch, the leading flush, the payload. -/
def loadedState (arg : Byte) (s : State) : State :=
  cmd 0xA0 (framedPayload s.hdata (transmitLen arg s.payloadSize) s.payloadSize) (flushTxFifo (txModeBody s))

theorem loadAndFire_eq (arg : Byte) (s : State) : loadAndFire arg s = startTimer (pulseCE (loadedState arg s)) := rfl

theorem loadedState_keepsFlags (arg : Byte) (s : State) : KeepsFlags s (loadedState arg s) := by
  have hmode : KeepsFlags s (txModeBody s) := cfgUpdate_keepsFlags 0x00 (rxMask s.cfg) s
  obtain ⟨⟨g, hg⟩, _⟩ := loadPayload_device (framedPayload s.hdata (transmitLen arg s.payloadSize) s.payloadSize)
    (flushTxFifo (txModeBody s))
  exact keepsFlags_trans hmode (keepsFlags_trans (flushTxFifo_keepsFlags _) (keepsFlags_of_orFlags _ _ g hg))

/-- The leading flush leaves the payload loaded alone in the transmit FIFO (R109, R161). -/
theorem loadedState_txFifo (arg : Byte) (s : State) :
    (loadedState arg s).dev.txFifo = [framedPayload s.hdata (transmitLen arg s.payloadSize) s.payloadSize] := by
  obtain ⟨_, q, hq, hfifo⟩ := loadPayload_device (framedPayload s.hdata (transmitLen arg s.payloadSize) s.payloadSize)
    (flushTxFifo (txModeBody s))
  rw [flushTxFifo_empty, List.sublist_nil] at hq
  rw [loadedState, hfifo, hq]
  rfl

/-- The events up to the end of the load, and what `STATUS_L` then holds (R160 to R162). -/
theorem loadedState_trace (arg : Byte) (s : State) : ∃ (st st' r stF : Byte) (ins : List Byte),
    (loadedState arg s).trace = s.trace ++ txn 0x00 st [s.cfg.fill] [cfgRead s] ++
      txn 0x20 st' [cfgRead s &&& ~~~(rxMask s.cfg)] [r] ++ [.ce0, .w s.cfg.tSettleTxUs] ++ txn 0xE1 stF [] [] ++
      txn 0xA0 (loadedState arg s).statusL (framedPayload s.hdata (transmitLen arg s.payloadSize) s.payloadSize) ins := by
  obtain ⟨st, st', r, hmode⟩ := txModeBody_trace s
  obtain ⟨ins, _, _, hload, _⟩ := cmd_spec 0xA0 (framedPayload s.hdata (transmitLen arg s.payloadSize) s.payloadSize)
    (flushTxFifo (txModeBody s))
  refine ⟨st, st', r, (flushTxFifo (txModeBody s)).statusL, ins, ?_⟩
  rw [loadedState, hload, flushTxFifo_trace, hmode]

/-! ## The first deadline test -/

/-- How many exchanges and how many waits and time reads come before it. -/
theorem loadAndFire_drawn (arg : Byte) (s : State) (hp : s.payloadSize.toNat ≤ 32) :
    (loadAndFire arg s).drawn = s.drawn + (6 + s.payloadSize.toNat) := by
  have hlen : (framedPayload s.hdata (transmitLen arg s.payloadSize) s.payloadSize).length = s.payloadSize.toNat :=
    framedPayload_length _ _ _ (Nat.min_le_right _ _) hp
  simp [loadAndFire, txModeBody, hlen]
  omega

theorem loadAndFire_ticks (arg : Byte) (s : State) : (loadAndFire arg s).ticks = s.ticks + 3 := by
  simp [loadAndFire, txModeBody, pulseCE, startTimer]

/-- The first test passes or not by the excess of the fourth wait or time read alone: the timer started at the read before (R164). -/
theorem loadAndFire_deadlinePassed (arg : Byte) (s : State) (hcfg : configOk s.cfg = true) :
    (readNow (loadAndFire arg s)).deadlinePassed = decide (100000 ≤ s.delayAt 3) := by
  obtain ⟨_, _, _, _, _, _, _, _, htimeout, _⟩ := configOk_spec s.cfg hcfg
  have hdelay : (loadAndFire arg s).delay = s.delayAt 3 := by simp [State.delay, State.delayAt, loadAndFire_ticks]
  simp [State.deadlinePassed, htimeout, hdelay]

/-! ## The first status byte -/

/-- TRANSMIT after its first status query (R164). -/
def firstQuery (arg : Byte) (s : State) : State := statusQuery (readNow (loadAndFire arg (accept .transmit s)))

@[simp] theorem firstQuery_cfg (arg : Byte) (s : State) : (firstQuery arg s).cfg = s.cfg := by simp [firstQuery]

@[simp] theorem firstQuery_answers (arg : Byte) (s : State) : (firstQuery arg s).answers = s.answers := by simp [firstQuery]

@[simp] theorem firstQuery_ce (arg : Byte) (s : State) : (firstQuery arg s).ce = false := by
  simp [firstQuery, loadAndFire, pulseCE]

theorem firstQuery_drawn (arg : Byte) (s : State) (hp : s.payloadSize.toNat ≤ 32) :
    (firstQuery arg s).drawn = s.drawn + (7 + s.payloadSize.toNat) := by
  simp [firstQuery, loadAndFire_drawn arg (accept .transmit s) hp]
  omega

theorem firstQuery_keepsFlags (arg : Byte) (s : State) : KeepsFlags s (firstQuery arg s) := by
  have hload : KeepsFlags s (readNow (loadAndFire arg (accept .transmit s))) := loadedState_keepsFlags arg (accept .transmit s)
  exact keepsFlags_trans hload (statusQuery_keepsFlags _)

/-- The byte the oracle offers then is the status byte (R66). -/
theorem firstQuery_statusL (arg : Byte) (s : State) (hc : s.conforming = false) (hp : s.payloadSize.toNat ≤ 32) :
    (firstQuery arg s).statusL = s.byteAt (6 + s.payloadSize.toNat) := by
  have hdrawn := loadAndFire_drawn arg (accept .transmit s) hp
  rw [firstQuery, statusQuery, cmd_status_oracle _ _ _ (by simp [State.trusts, hc])]
  simp only [State.answer, State.byteAt, readNow_answers, readNow_drawn, hdrawn, loadAndFire_frame, accept_answers, accept_drawn,
    accept_payloadSize]

/-! ## The exits -/

theorem pollBound_pos (c : Config) (h : configOk c = true) : 0 < pollBound c := by
  obtain ⟨_, _, _, _, _, _, _, _, htimeout, _, _, _, _, hpoll, _⟩ := configOk_spec c h
  rw [pollBound, htimeout]
  exact Nat.div_pos (by omega) hpoll

/-- TRANSMIT up to its first deadline test: one pass of the loop, and at least one is allowed. -/
theorem exec_transmit (arg : Byte) (s : State) (h : s.Ready) : ∃ k, exec (.transmit arg) s =
    .next (pollLoop (k + 1) (loadAndFire arg (accept .transmit s))) := by
  obtain ⟨hinit, hcfg⟩ := h
  obtain ⟨k, hk⟩ := Nat.exists_eq_add_one.mpr (pollBound_pos s.cfg hcfg)
  refine ⟨k, ?_⟩
  rw [← hk]
  exact hostOperation_inited .transmit (fun u => pollLoop (pollBound u.cfg) (loadAndFire arg u)) s hinit

/-- Where the deadline has not passed, the first status byte decides (R164, R206). -/
theorem exec_transmit_query (arg : Byte) (s : State) (h : s.Ready) (hd : s.delayAt 3 < 100000) : ∃ k, exec (.transmit arg) s = .next
    (if (firstQuery arg s).statusL.getLsbD 5 then successExit (firstQuery arg s)
      else if (firstQuery arg s).statusL.getLsbD 4 then maxRtExit (firstQuery arg s)
      else pollLoop k (wait s.cfg.tPollUs (firstQuery arg s))) := by
  obtain ⟨k, hk⟩ := exec_transmit arg s h
  have hnot : (readNow (loadAndFire arg (accept .transmit s))).deadlinePassed = false := by
    rw [loadAndFire_deadlinePassed arg (accept .transmit s) h.2]
    exact decide_eq_false (Nat.not_le.mpr hd)
  obtain ⟨_, h5, h4⟩ := statusBits_of_configOk s.cfg (firstQuery arg s).statusL h.2
  have hcfg : (loadAndFire arg (accept .transmit s)).cfg = s.cfg := by simp
  refine ⟨k, ?_⟩
  rw [hk, pollLoop_succ, hnot, if_neg Bool.false_ne_true, hcfg]
  rw [← h5, ← h4]
  rfl

/-- Settles O32: the success exit clears with `CLR_DS`. -/
theorem transmitSucceedsOnDataSent : Obligations.TransmitSucceedsOnDataSent := by
  intro s arg h hc hp hd h5
  obtain ⟨k, hk⟩ := exec_transmit_query arg s h hd
  rw [firstQuery_statusL arg s hc hp, if_pos h5] at hk
  have hcfg : configOk (firstQuery arg s).cfg = true := by rw [firstQuery_cfg]; exact h.2
  obtain ⟨_, hds, _⟩ := clearFlags_clears (firstQuery arg s) s.cfg.clrDs hcfg
  have hkeep := keepsFlagsBut_after (firstQuery_keepsFlags arg s) (clearFlags_keeps _ s.cfg.clrDs hcfg)
  refine ⟨_, hk, ⟨rfl, rfl, rfl, ?_⟩, ?_, ?_, ?_⟩
  · simp [successExit]
  · simp
  · simpa [successExit] using hds
  · rw [successExit, firstQuery_cfg]; exact hkeep

/-- Settles O33: the max-retransmit exit clears with `CLR_MR`, then flushes. -/
theorem transmitFailsOnMaxRetransmits : Obligations.TransmitFailsOnMaxRetransmits := by
  intro s arg h hc hp hd h5 h4
  obtain ⟨k, hk⟩ := exec_transmit_query arg s h hd
  rw [firstQuery_statusL arg s hc hp, if_neg (by rw [h5]; exact Bool.false_ne_true), if_pos h4] at hk
  have hcfg : configOk (firstQuery arg s).cfg = true := by rw [firstQuery_cfg]; exact h.2
  obtain ⟨_, _, hmr⟩ := clearFlags_clears (firstQuery arg s) s.cfg.clrMr hcfg
  have hkeep := keepsFlagsBut_before
    (keepsFlagsBut_after (firstQuery_keepsFlags arg s) (clearFlags_keeps _ s.cfg.clrMr hcfg)) (flushTxFifo_keepsFlags _)
  refine ⟨_, hk, ⟨rfl, rfl, rfl, ?_⟩, ?_, ?_, ?_, fun hbit hquiet => ?_⟩
  · simp [maxRtExit]
  · simp
  · simp [maxRtExit]
  · rw [maxRtExit, firstQuery_cfg]; exact hkeep
  · have hone : (clearFlags s.cfg.clrMr (firstQuery arg s)).QuietFor 1 := by
      intro j hj
      obtain rfl : j = 0 := by omega
      have hdrawn : (firstQuery arg s).drawn + 2 + 0 = s.drawn + (9 + s.payloadSize.toNat) := by
        rw [firstQuery_drawn arg s hp]; omega
      simpa [hdrawn] using hquiet
    simpa [maxRtExit, flushTxFifo_quiet _ hone] using hmr hbit

/-- Settles O34: nothing follows the first deadline test. -/
theorem transmitTimesOut : Obligations.TransmitTimesOut := by
  intro s arg h hd
  obtain ⟨k, hk⟩ := exec_transmit arg s h
  have hpassed : (readNow (loadAndFire arg (accept .transmit s))).deadlinePassed = true := by
    rw [loadAndFire_deadlinePassed arg (accept .transmit s) h.2]
    exact decide_eq_true hd
  rw [pollLoop_succ, if_pos hpassed, loadAndFire_eq] at hk
  obtain ⟨_, _, _, _, _, hsettle, _, hpulse, _⟩ := configOk_spec s.cfg h.2
  obtain ⟨st, st', r, stF, ins, htrace⟩ := loadedState_trace arg (accept .transmit s)
  have hkeep := loadedState_keepsFlags arg (accept .transmit s)
  have hfifo := loadedState_txFifo arg (accept .transmit s)
  have hcfg : (loadedState arg (accept .transmit s)).cfg = s.cfg := by simp [loadedState]
  have hcsn : (loadedState arg (accept .transmit s)).csn = true := by simp [loadedState]
  refine ⟨_, st, cfgRead (accept .transmit s), st', r, stF, _, ins, hk, ⟨rfl, rfl, rfl, hcsn⟩, rfl, ?_, rfl, hkeep, hfifo⟩
  simp only [accept_cfg, accept_trace, accept_hdata, accept_payloadSize, hsettle] at htrace
  simp [timeoutExit, startTimer, pulseCE, htrace, hcfg, hpulse, transmitLen]

end Sys2Proof.Machine
end

section
/-! RECEIVE: the status query, the payload read, and what its two exits have in common (R171 to R174). -/

namespace Sys2Proof.Machine

/-! ## The script -/

/-- After `m` exchanges the rest of a quiet script is quiet. -/
theorem quietFor_after {m n : Nat} {s t : State} (h : s.QuietFor (m + n)) (ha : t.answers = s.answers) (hd : t.drawn = s.drawn + m) :
    t.QuietFor n := by
  intro k hk
  rw [ha, hd, Nat.add_assoc]
  exact h (m + k) (by omega)

theorem quietFor_le {m n : Nat} {s : State} (h : s.QuietFor n) (hmn : m ≤ n) : s.QuietFor m := fun k hk => h k (by omega)

/-- The data phase of an oracle: the bytes it offers in the exchanges that follow (R66). -/
theorem xferAll_oracle (c : Byte) (ts : List Byte) (s : State) (h : s.trusts = false) :
    (xferAll c ts s).dataIn = s.dataIn ++ (List.range ts.length).map s.byteAt := by
  induction ts generalizing s with
  | nil => simp [xferAll]
  | cons x ts ih =>
    have hdata : (xferData c x s).dataIn = s.dataIn ++ [s.byteAt 0] := by rw [xferData_oracle c x s h]; rfl
    have hnext : (xferData c x s).byteAt = fun k => s.byteAt (k + 1) := by
      funext k
      simp only [State.byteAt, xferData_answers, xferData_drawn, Nat.add_assoc, Nat.add_comm 1 k]
    rw [xferAll, ih (xferData c x s) h, hdata, hnext, List.length_cons, List.range_succ_eq_map]
    simp [Function.comp_def]

/-- The bytes an oracle returns in a transaction: those it offers after the status byte. -/
theorem cmd_dataIn_oracle (c : Byte) (out : List Byte) (s : State) (h : s.trusts = false) :
    (cmd c out s).dataIn = (List.range out.length).map (fun k => s.byteAt (1 + k)) := by
  have hx := xferAll_oracle c out (xferCommand c (holdCSN (setCSN false s))) h
  have hnext : (xferCommand c (holdCSN (setCSN false s))).byteAt = fun k => s.byteAt (1 + k) := by
    funext k
    simp [State.byteAt, Nat.add_assoc]
  rw [hnext] at hx
  simpa [cmd] using hx

/-! ## The payload read -/

/-- The buffer after bytes are stored from index `k` on (R172). -/
theorem storeFrom_getElem (k : Nat) (bs : List Byte) (buf : Vector Byte 32) (i : Nat) (h : i < 32) :
    (storeFrom k bs buf)[i] = if k ≤ i then bs.getD (i - k) buf[i] else buf[i] := by
  induction bs generalizing k buf with
  | nil => simp [storeFrom]
  | cons b bs ih =>
    rw [storeFrom, ih, Vector.getElem_setIfInBounds]
    obtain hlt | rfl | hgt := Nat.lt_trichotomy i k
    · rw [if_neg (by omega), if_neg (by omega), if_neg (by omega)]
    · simp
    · have hsub : i - k = (i - (k + 1)) + 1 := by omega
      rw [if_pos (by omega), if_neg (by omega), if_pos (by omega), hsub, List.getD_cons_succ]

/-- RECEIVE's payload transaction (R172). -/
def payloadRead (q : State) : State := cmd 0x61 (List.replicate q.payloadSize.toNat q.cfg.fill) { q with rxlen := q.payloadSize }

theorem readPayload_eq (q : State) : readPayload q = finish true (clearFlags q.cfg.clrDr
    { payloadRead q with rxbuf := storeFrom 0 (payloadRead q).dataIn (payloadRead q).rxbuf }) := rfl

/-- Where the widths agree a payload read takes no effect in the device (R108). -/
theorem cmd_readRxPayload_dev (out : List Byte) (s : State) (h : s.widthAgrees = true) :
    (cmd 0x61 out s).dev = (frameOf 0x61 out s).dev := by
  have hdecode : decodeBus 0x61 = some .readRxPayload := by decide
  have hw : (frameOf 0x61 out s).widthAgrees = true := by
    have hp : (frameOf 0x61 out s).payloadSize = s.payloadSize := by simp [frameOf]
    rw [State.widthAgrees, State.devReg, frameOf_regs, hp]
    exact h
  simp only [cmd_eq, deviceActs, hdecode, hw, if_true]

variable (q : State)

theorem payloadRead_regs (h : q.widthAgrees = true) : (payloadRead q).dev.regs = q.dev.regs := by
  have hw : State.widthAgrees { q with rxlen := q.payloadSize } = true := h
  rw [payloadRead, cmd_readRxPayload_dev _ _ hw, frameOf_regs]

theorem payloadRead_keepsFlags (h : q.widthAgrees = true) : KeepsFlags q (payloadRead q) := by
  have hw : State.widthAgrees { q with rxlen := q.payloadSize } = true := h
  obtain ⟨⟨g, hg⟩, _⟩ := frameOf_device 0x61 (List.replicate q.payloadSize.toNat q.cfg.fill) { q with rxlen := q.payloadSize }
  exact keepsFlags_of_orFlags _ _ g (by rw [payloadRead, cmd_readRxPayload_dev _ _ hw, hg])

/-- `RXBUF` after the payload read: the bytes returned, then the old contents (R172). -/
theorem readPayload_rxbuf (i : Nat) (h : i < 32) : (readPayload q).rxbuf[i] = (payloadRead q).dataIn.getD i q.rxbuf[i] := by
  have hbuf : (payloadRead q).rxbuf = q.rxbuf := by simp [payloadRead]
  have hstore : (readPayload q).rxbuf = storeFrom 0 (payloadRead q).dataIn q.rxbuf := by simp [readPayload_eq, hbuf]
  simp only [hstore, storeFrom_getElem, Nat.zero_le, if_true, Nat.sub_zero]

theorem readPayload_rxlen : (readPayload q).rxlen = q.payloadSize := by simp [readPayload_eq, payloadRead]

/-- The events of the payload read and of the clearing write, and what `STATUS_L` then holds (R172, R174). -/
theorem readPayload_trace : ∃ st r : Byte, (payloadRead q).dataIn.length = q.payloadSize.toNat ∧
    (readPayload q).trace = q.trace ++
      (txn 0x61 st (List.replicate q.payloadSize.toNat q.cfg.fill) (payloadRead q).dataIn ++
        txn 0x27 (readPayload q).statusL [q.cfg.clrDr] [r]) := by
  obtain ⟨ins, hlen, hins, htrace, _⟩ :=
    cmd_spec 0x61 (List.replicate q.payloadSize.toNat q.cfg.fill) { q with rxlen := q.payloadSize }
  obtain ⟨r, hr⟩ := clearFlags_spec q.cfg.clrDr
    { payloadRead q with rxbuf := storeFrom 0 (payloadRead q).dataIn (payloadRead q).rxbuf }
  refine ⟨(payloadRead q).statusL, r, ?_, ?_⟩
  · rw [payloadRead, hins, hlen, List.length_replicate]
  · rw [← List.append_assoc]
    subst hins
    exact hr.trans (congrArg (· ++ _) htrace)

/-- The clearing write of the success exit (R174). -/
theorem readPayload_clears (hcfg : configOk q.cfg = true) (h6 : q.cfg.clrDr.getLsbD 6 = true) :
    (readPayload q).dev.flags.dataReady = false := by
  have hread : configOk (payloadRead q).cfg = true := by simpa [payloadRead] using hcfg
  exact (clearFlags_clears { payloadRead q with rxbuf := storeFrom 0 (payloadRead q).dataIn (payloadRead q).rxbuf }
    q.cfg.clrDr hread).1 h6

theorem readPayload_keepsFlags (hcfg : configOk q.cfg = true) (h : q.widthAgrees = true) :
    KeepsFlagsBut q.cfg.clrDr q (readPayload q) := by
  have hread : configOk (payloadRead q).cfg = true := by simpa [payloadRead] using hcfg
  exact keepsFlagsBut_after (payloadRead_keepsFlags q h)
    (clearFlags_keeps { payloadRead q with rxbuf := storeFrom 0 (payloadRead q).dataIn (payloadRead q).rxbuf } q.cfg.clrDr hread)

/-! ## The exits -/

/-- RECEIVE after its status query: the payload read or the no-data exit (R171, R173). -/
def receiveExit (q : State) : State := if dataReadyBit q.cfg q.statusL then readPayload q else finish false q

/-- Bit 6 of the status byte decides which exit is taken (R171, R206). -/
theorem receiveExit_eq (hcfg : configOk q.cfg = true) :
    receiveExit q = if q.statusL.getLsbD 6 then readPayload q else finish false q := by
  rw [receiveExit, (statusBits_of_configOk q.cfg _ hcfg).1]

/-- What each exit adds to the trace and writes of the results (R172, R173). -/
theorem receiveExit_outcome (hcfg : configOk q.cfg = true) : ∃ last, (receiveExit q).trace = q.trace ++ last ∧
    ((q.statusL.getLsbD 6 = false ∧ last = [] ∧ (receiveExit q).result = false ∧ (receiveExit q).statusL = q.statusL ∧
        (receiveExit q).rxlen = q.rxlen ∧ (receiveExit q).rxbuf = q.rxbuf) ∨
      ∃ (st61 : Byte) (ins : List Byte) (st07 r07 : Byte), q.statusL.getLsbD 6 = true ∧ ins.length = q.payloadSize.toNat ∧
        last = txn 0x61 st61 (List.replicate q.payloadSize.toNat q.cfg.fill) ins ++ txn 0x27 st07 [q.cfg.clrDr] [r07] ∧
        (receiveExit q).result = true ∧ (receiveExit q).statusL = st07 ∧ (receiveExit q).rxlen = q.payloadSize ∧
        ∀ i (h : i < 32), (receiveExit q).rxbuf[i] = ins.getD i q.rxbuf[i]) := by
  rw [receiveExit_eq q hcfg]
  split
  · rename_i h6
    obtain ⟨st, r, hlen, htrace⟩ := readPayload_trace q
    exact ⟨_, htrace, .inr ⟨st, (payloadRead q).dataIn, (readPayload q).statusL, r, h6, hlen, rfl, rfl, rfl, readPayload_rxlen q,
      readPayload_rxbuf q⟩⟩
  · rename_i h6
    exact ⟨[], (List.append_nil _).symm, .inl ⟨Bool.eq_false_iff.mpr h6, rfl, rfl, rfl, rfl, rfl⟩⟩

/-- What the two exits have in common. -/
theorem receiveExit_common (hcsn : q.csn = true) : (receiveExit q).busy = false ∧ (receiveExit q).seq = .idle ∧
    (receiveExit q).csn = true ∧ (receiveExit q).ce = q.ce ∧ (receiveExit q).pwrS = q.pwrS ∧ (receiveExit q).rxS = q.rxS ∧
    (receiveExit q).modes = q.modes := by
  unfold receiveExit
  split
  · simp [readPayload_eq, payloadRead]
  · simp [hcsn]

/-- Neither writes a register of the device, where the widths agree. -/
theorem receiveExit_regs (h : q.widthAgrees = true) : (receiveExit q).dev.regs = q.dev.regs := by
  unfold receiveExit
  split
  · rw [readPayload_eq, finish_dev, clearFlags_regs]
    exact payloadRead_regs q h
  · rfl

/-! ## The status query -/

/-- RECEIVE up to its status query (R171). -/
def receiveQuery (s : State) : State := statusQuery (rxModeBody (accept .receive s))

/-- After INIT, RECEIVE is the mode switch and query, then one of the exits (R171). -/
theorem exec_receive (arg : Byte) (s : State) (h : s.inited = true) :
    exec (.receive arg) s = .next (receiveExit (receiveQuery s)) :=
  hostOperation_inited .receive receiveBody s h

variable (s : State)

@[simp] theorem receiveQuery_frame : (receiveQuery s).payloadSize = s.payloadSize ∧ (receiveQuery s).rbyte = s.rbyte ∧
    (receiveQuery s).rxlen = s.rxlen ∧ (receiveQuery s).rxbuf = s.rxbuf ∧ (receiveQuery s).inited = s.inited ∧
    (receiveQuery s).cfg = s.cfg ∧ (receiveQuery s).conforming = s.conforming ∧ (receiveQuery s).answers = s.answers ∧
    (receiveQuery s).csn = true ∧ (receiveQuery s).drawn = s.drawn + 5 := by
  simp [receiveQuery, rxModeBody]

/-- The events up to the query's end, the shadows, `CE` and MODE (R143, R146, R171). -/
theorem receiveQuery_spec (hcfg : configOk s.cfg = true) :
    (∃ st v st' r : Byte, (receiveQuery s).trace = s.trace ++ txn 0x00 st [s.cfg.fill] [v] ++
        txn 0x20 st' [v ||| rxMask s.cfg] [r] ++ [.ce1, .w s.cfg.tSettleRxUs] ++ txn 0xFF (receiveQuery s).statusL [] [] ∧
      (receiveQuery s).pwrS = v.getLsbD s.cfg.powerBit ∧
      (Memory.wf s.dev.regs = true → ∀ c, Memory.read (receiveQuery s).dev.regs c =
        if c = cellOf 0x00 0 then v ||| rxMask s.cfg else Memory.read s.dev.regs c)) ∧
    (receiveQuery s).rxS = true ∧ (receiveQuery s).ce = true ∧
    (receiveQuery s).modes.map Prod.snd = s.modes.map Prod.snd ++
      [modeOf (receiveQuery s).pwrS true s.ce, modeOf (receiveQuery s).pwrS true true] := by
  obtain ⟨_, _, _, _, _, _, _, _, _, _, _, _, _, _, hbits, _⟩ := configOk_spec s.cfg hcfg
  obtain ⟨⟨st, r, htrace⟩, hpwr, hrx, hce, _, hmodes, _, _, _, hread⟩ := rxModeBody_spec (accept .receive s) hbits
  have hpwr' : (receiveQuery s).pwrS = (cfgRead (accept .receive s)).getLsbD s.cfg.powerBit := by simp [receiveQuery, hpwr]
  refine ⟨⟨st, cfgRead (accept .receive s), (rxModeBody (accept .receive s)).statusL, r, ?_, hpwr', fun hm c => ?_⟩, ?_, ?_, ?_⟩
  · rw [receiveQuery, statusQuery_trace, htrace]
    rfl
  · rw [receiveQuery, statusQuery_regs]
    exact (hread hm).2 c
  · simp [receiveQuery, hrx]
  · simp [receiveQuery, hce]
  · rw [hpwr']
    simpa [receiveQuery] using hmodes

/-- The mode switch writes another register than the width (R143, R239). -/
theorem receiveQuery_widthAgrees (hcfg : configOk s.cfg = true) (hm : Memory.wf s.dev.regs = true) (hw : s.widthAgrees = true) :
    (receiveQuery s).widthAgrees = true := by
  obtain ⟨⟨st, v, st', r, _, _, hread⟩, _⟩ := receiveQuery_spec s hcfg
  have h11 : (receiveQuery s).devReg 0x11 0 = s.devReg 0x11 0 := by
    rw [State.devReg, hread hm, if_neg (by decide)]
    rfl
  have hp : (receiveQuery s).payloadSize = s.payloadSize := by simp
  rw [State.widthAgrees, h11, hp]
  exact hw

theorem rxModeBody_keepsFlags : KeepsFlags s (rxModeBody s) := cfgUpdate_keepsFlags (rxMask s.cfg) 0x00 s

theorem receiveQuery_keepsFlags : KeepsFlags s (receiveQuery s) :=
  keepsFlags_trans (t := rxModeBody (accept .receive s)) (rxModeBody_keepsFlags (accept .receive s)) (statusQuery_keepsFlags _)

/-- No register of the device but 0x00 changes (R141). -/
theorem receiveExit_sameCells (hcfg : configOk s.cfg = true) (hm : Memory.wf s.dev.regs = true) (hw : s.widthAgrees = true) :
    SameCells s (receiveExit (receiveQuery s)) [cellOf 0x00 0] := by
  obtain ⟨⟨st, v, st', r, _, _, hread⟩, _⟩ := receiveQuery_spec s hcfg
  intro c hc
  rw [receiveExit_regs _ (receiveQuery_widthAgrees s hcfg hm hw), hread hm, if_neg (by simpa using hc)]

/-- The byte an oracle offers in the fifth exchange is the status byte (R66). -/
theorem receiveQuery_statusL_oracle (hc : s.conforming = false) : (receiveQuery s).statusL = s.byteAt 4 := by
  rw [receiveQuery, statusQuery, cmd_status_oracle _ _ _ (by simp [State.trusts, hc])]
  simp [State.answer, State.byteAt, rxModeBody]

end Sys2Proof.Machine
end

section
/-! The statements about RECEIVE (R171 to R174, R108). -/

namespace Sys2Proof.Machine

/-! ## The oldest payload -/

/-- A trusted data phase of READ_RX_PAYLOAD returns the oldest payload from `idx` on (R108, R38). -/
theorem xferAll_payload (n k : Nat) (x : Byte) (s : State) (payload : Payload) (later : List Payload) (ht : s.trusts = true)
    (hw : s.widthAgrees = true) (hq : s.QuietFor n) (hfifo : s.dev.rxFifo = payload :: later) (hk : s.idx.toNat = k)
    (hlen : k + n = payload.length) (hmax : k + n < 64) :
    (xferAll 0x61 (List.replicate n x) s).dataIn = s.dataIn ++ payload.drop k := by
  induction n generalizing k s with
  | zero => simp [xferAll]; omega
  | succ n ih =>
    have hdecode : decodeBus 0x61 = some .readRxPayload := by decide
    have hlt : k < payload.length := by omega
    have hdev : (takeAnswer s).dev = s.dev := by rw [takeAnswer_dev, answer_quiet n s hq, radioActs_quiet]
    have hreply : dataReply 0x61 (takeAnswer s) s.answer.byte = payload[k] := by
      have ht' : (takeAnswer s).trusts = true := ht
      have hw' : (takeAnswer s).widthAgrees = true := hw
      simp only [dataReply, ht', hw', hdecode, if_true, hdev, hfifo, takeAnswer_idx, hk, List.headD_cons]
      exact List.getD_eq_getElem _ _ hlt
    have hdata : (xferData 0x61 x s).dataIn = s.dataIn ++ [payload[k]] := by rw [← hreply]; rfl
    have hidx : (xferData 0x61 x s).idx.toNat = k + 1 := by
      rw [xferData_idx, BitVec.toNat_add, hk, show (1 : BitVec 6).toNat = 1 from rfl]
      omega
    have hnext := ih (k + 1) (xferData 0x61 x s) ht hw (quietFor_next n s _ hq rfl rfl) (by rw [← hfifo]; exact congrArg _ hdev)
      hidx (by omega) (by omega)
    rw [List.replicate_succ, xferAll, hnext, hdata, List.drop_eq_getElem_cons hlt]
    simp

/-- The payload read of a trusted device with a quiet radio returns the oldest payload (R108, R172). -/
theorem payloadRead_dataIn (q : State) (payload : Payload) (later : List Payload) (ht : q.trusts = true) (hw : q.widthAgrees = true)
    (hq : q.QuietFor (q.payloadSize.toNat + 1)) (hfifo : q.dev.rxFifo = payload :: later)
    (hlen : payload.length = q.payloadSize.toNat) : (payloadRead q).dataIn = payload := by
  have hmax : 0 + q.payloadSize.toNat < 64 := by omega
  have hdev : (xferCommand 0x61 (holdCSN (setCSN false { q with rxlen := q.payloadSize }))).dev = q.dev := by
    have hanswer := answer_quiet q.payloadSize.toNat (holdCSN (setCSN false { q with rxlen := q.payloadSize })) hq
    rw [xferCommand_dev, hanswer, radioActs_quiet]
    rfl
  have hdata := xferAll_payload q.payloadSize.toNat 0 q.cfg.fill
    (xferCommand 0x61 (holdCSN (setCSN false { q with rxlen := q.payloadSize }))) payload later ht hw
    (quietFor_next _ q _ hq rfl rfl) (by rw [hdev, hfifo]) rfl (by omega) hmax
  simpa [payloadRead, cmd] using hdata

/-- The status byte of a trusted device shows its data-ready flag (R33, R38). -/
theorem cmd_status_dataReady (c : Byte) (out : List Byte) (s : State) (ht : s.trusts = true) (hcfg : configOk s.cfg = true)
    (h : s.dev.flags.dataReady = true) : (cmd c out s).statusL.getLsbD 6 = true := by
  obtain ⟨_, _, _, _, _, _, _, _, _, h6, h5, h4, _⟩ := configOk_spec s.cfg hcfg
  have hbit : ∀ (low : Byte) (ds mr : Bool), (putBit (putBit (putBit low 6 true) 5 ds) 4 mr).getLsbD 6 = true := by decide
  have ht' : (takeAnswer (holdCSN (setCSN false s))).trusts = true := ht
  have hreply : (cmd c out s).statusL = statusReply (takeAnswer (holdCSN (setCSN false s))) s.answer.byte := by
    simp [cmd, xferCommand, State.answer]
  rw [hreply, statusReply, if_pos ht']
  simp [statusByte, radioActs, orFlags, h, h6, h5, h4, hbit]

/-- A read of a register changes nothing in the device while the radio is quiet (R106). -/
theorem regReadBlock_quiet (a : Byte) (n : Nat) (s : State) (h : s.QuietFor (n + 1)) : (regReadBlock a n s).dev = s.dev := by
  rw [regReadBlock, cmd_eq]
  simp only [deviceActs, decodeBus_readByte]
  exact frameOf_quiet _ _ _ (by rwa [List.length_replicate])

variable (s : State)

/-- Up to the status query RECEIVE leaves the received payloads alone (R141, R113). -/
theorem receiveQuery_rxFifo (h : s.QuietFor 5) : (receiveQuery s).dev.rxFifo = s.dev.rxFifo := by
  have hread : (regRead 0x00 (accept .receive s)).dev = s.dev := regReadBlock_quiet 0x00 1 _ (quietFor_le h (by decide))
  have hwrite := (regWriteBlock_queues 0x00 [cfgWritten (rxMask s.cfg) 0x00 (accept .receive s)] (regRead 0x00 (accept .receive s))
    (by decide) (show 1 ≤ _ by decide)).2 (quietFor_after (m := 2) (quietFor_le h (by simp)) (by simp) (by simp))
  have hquery := (cmd_queues 0xFF [] (rxModeBody (accept .receive s)) (.inl (by decide))).2
    (quietFor_after (m := 4) h (by simp) (by simp [rxModeBody]))
  calc (receiveQuery s).dev.rxFifo = (rxModeBody (accept .receive s)).dev.rxFifo := hquery.2
    _ = (regRead 0x00 (accept .receive s)).dev.rxFifo := hwrite.2
    _ = s.dev.rxFifo := by rw [hread]

/-! ## The statements -/

/-- Settles O36: what the exits have in common, then what each adds. -/
theorem receiveCompletes : Obligations.ReceiveCompletes := by
  intro s arg ⟨hinit, hcfg⟩ hw
  have hexec := exec_receive arg s hinit
  obtain ⟨⟨st, v, st', r, htrace, hpwr, hread⟩, hrx, hce, hmodes⟩ := receiveQuery_spec s hcfg
  obtain ⟨hbusy, hseq, hcsn, hce', hpwr', hrx', hmodes'⟩ := receiveExit_common (receiveQuery s) (by simp)
  obtain ⟨last, hlast, hexit⟩ := receiveExit_outcome (receiveQuery s) (by simpa using hcfg)
  refine ⟨_, st, v, st', r, (receiveQuery s).statusL, last, hexec, by rw [hlast, htrace], hbusy, hseq, hcsn, hce'.trans hce,
    hrx'.trans hrx, hpwr'.trans hpwr, exec_payloadSize hexec (by simp), exec_rbyte hexec (by simp), exec_inited hexec (by simp), ?t0,
    exec_sameInputs hexec, ?modes, fun hm => ⟨?config, receiveExit_sameCells s hcfg hm hw⟩, ?exit⟩
  case t0 =>
    obtain ⟨_, _, ht0, _⟩ := receiveBody_frame (accept .receive s)
    exact ht0
  case modes => rw [hmodes', hpwr', hmodes]
  case config =>
    rw [State.devReg, receiveExit_regs _ (receiveQuery_widthAgrees s hcfg hm hw), hread hm]
    rfl
  case exit => simpa using hexit

/-- Settles O37: the status byte is the oracle's, and the no-data exit leaves everything but `RESULT`. -/
theorem receiveWithoutData : Obligations.ReceiveWithoutData := by
  intro s arg ⟨hinit, hcfg⟩ hw hc h6
  have hexec := exec_receive arg s hinit
  have hcells := receiveExit_sameCells s hcfg
  obtain ⟨_, _, hce, _⟩ := receiveQuery_spec s hcfg
  rw [receiveExit_eq _ (by simpa using hcfg), receiveQuery_statusL_oracle s hc, if_neg (by rw [h6]; exact Bool.false_ne_true)]
    at hexec hcells
  exact ⟨_, hexec, ⟨rfl, rfl, rfl, by simp⟩, hce, by simp [SameResults], receiveQuery_keepsFlags s, fun hm => hcells hm hw⟩

/-- The data exit of RECEIVE clears the flag by the clearing byte, and keeps the flags it does not name (R174, R37). -/
theorem readPayload_receiveQuery_flags (hcfg : configOk s.cfg = true) :
    (s.cfg.clrDr.getLsbD 6 = true → (readPayload (receiveQuery s)).dev.flags.dataReady = false) ∧
    (s.widthAgrees = true → Memory.wf s.dev.regs = true → KeepsFlagsBut s.cfg.clrDr s (readPayload (receiveQuery s))) := by
  have hc : (receiveQuery s).cfg = s.cfg := by simp
  have hclears := readPayload_clears (receiveQuery s) (by rwa [hc])
  have hkeeps := readPayload_keepsFlags (receiveQuery s) (by rwa [hc])
  rw [hc] at hclears hkeeps
  exact ⟨hclears, fun hw hm => keepsFlagsBut_after (receiveQuery_keepsFlags s) (hkeeps (receiveQuery_widthAgrees s hcfg hm hw))⟩

/-- Settles O38: the bytes returned are the oracle's from the seventh exchange on. -/
theorem receiveWithData : Obligations.ReceiveWithData := by
  intro s arg ⟨hinit, hcfg⟩ hw hc h6
  have hexec := exec_receive arg s hinit
  have hcells := receiveExit_sameCells s hcfg
  obtain ⟨_, _, hce, _⟩ := receiveQuery_spec s hcfg
  obtain ⟨hclears, hkeeps⟩ := readPayload_receiveQuery_flags s hcfg
  rw [receiveExit_eq _ (by simpa using hcfg), receiveQuery_statusL_oracle s hc, if_pos h6] at hexec hcells
  have hdata : (payloadRead (receiveQuery s)).dataIn = (List.range s.payloadSize.toNat).map (fun k => s.byteAt (6 + k)) := by
    rw [payloadRead, cmd_dataIn_oracle _ _ _ (by simp [State.trusts, hc])]
    simp [State.byteAt, ← Nat.add_assoc]
  refine ⟨_, hexec, ⟨rfl, rfl, rfl, ?csn⟩, ?ce, ?rxlen, exec_rbyte hexec (by simp), fun i h => ?rxbuf, hclears,
    fun hm => ⟨hkeeps hw hm, hcells hm hw⟩⟩
  case csn => simp [readPayload_eq]
  case ce => simpa using hce
  case rxlen => rw [readPayload_rxlen]; simp
  case rxbuf =>
    rw [readPayload_rxbuf _ i h, hdata, List.getD_eq_getElem?_getD]
    split <;> simp [*]

/-- Settles O60: the status byte shows the flag, and the bytes returned are the oldest payload. -/
theorem receiveReturnsOldestPayload : Obligations.ReceiveReturnsOldestPayload := by
  intro s arg payload later hs hquiet hflag hfifo hlen
  obtain ⟨hconf, hinit, hcfg, hm, hw, _⟩ := hs
  have hexec := exec_receive arg s hinit
  obtain ⟨hclears, hkeeps⟩ := readPayload_receiveQuery_flags s hcfg
  have h6 : (receiveQuery s).statusL.getLsbD 6 = true :=
    cmd_status_dataReady 0xFF [] (rxModeBody (accept .receive s)) (by simp [State.trusts, hconf, hinit]) (by simpa using hcfg)
      ((rxModeBody_keepsFlags (accept .receive s)).1 hflag)
  have hdata : (payloadRead (receiveQuery s)).dataIn = payload :=
    payloadRead_dataIn (receiveQuery s) payload later (by simp [State.trusts, hconf, hinit]) (receiveQuery_widthAgrees s hcfg hm hw)
      (quietFor_after (m := 5) (quietFor_le hquiet (by simp; omega)) (by simp) (by simp))
      ((receiveQuery_rxFifo s (quietFor_le hquiet (by omega))).trans hfifo) (by simpa using hlen)
  rw [receiveExit_eq _ (by simpa using hcfg), if_pos h6] at hexec
  refine ⟨_, hexec, rfl, ?rxlen, fun i h => ?rxbuf, hclears, hkeeps hw hm⟩
  case rxlen => rw [readPayload_rxlen]; simp
  case rxbuf => rw [readPayload_rxbuf _ i h, hdata]; simp

end Sys2Proof.Machine
end

section
/-! The address operand of a register call (R62, R87): its bits 7 to 5 are dropped in the command byte and for the shadows. -/

namespace Sys2Proof.Machine

/-- A 5-bit address masked again is itself (R62). -/
theorem addrMask_idem (a : Byte) : a &&& 0x1F &&& 0x1F = a &&& 0x1F := by rw [BitVec.and_assoc, BitVec.and_self]

theorem addrMask_le (a : Byte) : (a &&& 0x1F).toNat ≤ 0x1F := Nat.and_le_right

@[simp] theorem readByte_masked (a : Byte) : readByte (a &&& 0x1F) = readByte a := by rw [readByte, addrMask_idem, readByte]

@[simp] theorem writeByte_masked (a : Byte) : writeByte (a &&& 0x1F) = writeByte a := by rw [writeByte, addrMask_idem, writeByte]

/-- Whether the shadows follow a write depends on the masked address alone (R24). -/
@[simp] theorem shadowWrite_masked (a : Byte) (bs : List Byte) (s : State) : shadowWrite (a &&& 0x1F) bs s = shadowWrite a bs s := by
  cases bs with
  | nil => rfl
  | cons v vs => simp only [shadowWrite, addrMask_idem]

theorem regReadBlock_masked (a : Byte) (n : Nat) (s : State) : regReadBlock (a &&& 0x1F) n s = regReadBlock a n s := by
  simp only [regReadBlock, readByte_masked]

theorem regWriteBlock_masked (a : Byte) (bs : List Byte) (s : State) : regWriteBlock (a &&& 0x1F) bs s = regWriteBlock a bs s := by
  simp only [regWriteBlock, writeByte_masked, shadowWrite_masked]

/-- A read's command byte is the masked address (R87). -/
theorem readByte_le (a : Byte) : (readByte a).toNat ≤ 0x1F := by
  have h : readByte a = a &&& 0x1F := BitVec.zero_or
  rw [h]
  exact addrMask_le a

/-- A write's command byte is the masked address with bit 5 set (R87). -/
theorem writeByte_range (a : Byte) : 0x20 ≤ (writeByte a).toNat ∧ (writeByte a).toNat ≤ 0x3F := by
  have hmask : (a &&& 0x1F).toNat < 2 ^ 6 := by have := addrMask_le a; omega
  rw [writeByte, BitVec.toNat_or]
  exact ⟨Nat.left_le_or, Nat.le_of_lt_succ (Nat.or_lt_two_pow (by decide) hmask)⟩

/-- Settles O6: the mask is idempotent, and a register call looks at the masked address only. -/
theorem addressOperandMasked : Obligations.AddressOperandMasked := by
  intro a s
  obtain ⟨hlo, hhi⟩ := writeByte_range a
  have hread : exec (.readRegister (a &&& 0x1F)) s = exec (.readRegister a) s :=
    congrArg Host.Outcome.next (regReadBlock_masked a _ s)
  have hwrite : exec (.writeRegister (a &&& 0x1F)) s = exec (.writeRegister a) s :=
    congrArg Host.Outcome.next (regWriteBlock_masked a _ s)
  exact ⟨rfl, rfl, readByte_le a, hlo, hhi, hread.symm, hwrite.symm⟩

end Sys2Proof.Machine
end

section
/-! Trace, time and exchanges only grow (R70, R217, R218). `Grows` counts the exchanges of the transactions passed, so that its step
lemma for `cmd`, which every instruction has, gives the strict clause. -/

namespace Sys2Proof.Machine

/-- `t` is later than `s`: events were only added, time did not run back, and at least `k` exchanges were made. -/
structure Grows (s : State) (k : Nat) (t : State) : Prop where
  events : s.trace <+: t.trace
  time : s.now ≤ t.now
  exchanges : s.drawn + k ≤ t.drawn

namespace Grows

variable {s t : State} {k : Nat}

theorem refl (s : State) : Grows s 0 s := ⟨List.prefix_rfl, le_rfl, le_rfl⟩

theorem weaken {j : Nat} (h : Grows s k t) (hjk : j ≤ k) : Grows s j t :=
  { h with exchanges := (Nat.add_le_add_left hjk s.drawn).trans h.exchanges }

/-- Events are added at the end. -/
theorem append (h : Grows s k t) (es : List Event) : s.trace <+: t.trace ++ es := h.events.trans (List.prefix_append _ _)

/-! ## The named operations -/

theorem cmd (h : Grows s k t) (c : Byte) (out : List Byte) : Grows s (k + 1) (Machine.cmd c out t) := by
  obtain ⟨rs, _, _, htrace, _⟩ := cmd_spec c out t
  have hdrawn := h.exchanges
  exact ⟨htrace ▸ h.append _, by simpa using h.time.trans (Nat.le_add_right _ _), by simp only [cmd_drawn]; omega⟩

theorem shadowWrite (h : Grows s k t) (a : Byte) (bs : List Byte) : Grows s k (Machine.shadowWrite a bs t) := by
  obtain ⟨hevents, htime, hdrawn⟩ := h
  constructor <;> simpa

theorem regWriteBlock (h : Grows s k t) (a : Byte) (bs : List Byte) : Grows s (k + 1) (Machine.regWriteBlock a bs t) :=
  (h.cmd _ _).shadowWrite a bs

theorem regReadBlock (h : Grows s k t) (a : Byte) (n : Nat) : Grows s (k + 1) (Machine.regReadBlock a n t) := h.cmd _ _

theorem regWrite (h : Grows s k t) (a v : Byte) : Grows s (k + 1) (Machine.regWrite a v t) := h.regWriteBlock a [v]

theorem cfgUpdate (h : Grows s k t) (set clr : Byte) : Grows s (k + 2) (Machine.cfgUpdate set clr t) :=
  (h.regReadBlock 0x00 1).regWrite 0x00 _

theorem setCE (h : Grows s k t) (b : Bool) : Grows s k (Machine.setCE b t) := ⟨h.append _, h.time, h.exchanges⟩

theorem setCSN (h : Grows s k t) (b : Bool) : Grows s k (Machine.setCSN b t) := ⟨h.append _, h.time, h.exchanges⟩

theorem wait (h : Grows s k t) (n : Nat) : Grows s k (Machine.wait n t) :=
  ⟨h.append _, by rw [wait_now]; exact h.time.trans (by omega), h.exchanges⟩

theorem readNow (h : Grows s k t) : Grows s k (Machine.readNow t) :=
  ⟨h.append _, h.time.trans (Nat.le_add_right _ _), h.exchanges⟩

theorem startTimer (h : Grows s k t) : Grows s k (Machine.startTimer t) := { h.readNow with }

theorem accept (h : Grows s k t) (op : HostOp) : Grows s k (Machine.accept op t) := { h with }

theorem finish (h : Grows s k t) (b : Bool) : Grows s k (Machine.finish b t) := { h with }

theorem keepDeviceIf (h : Grows s k t) (known : Bool) : Grows s k (Machine.keepDeviceIf known t) := { h with }

theorem poweredDown (h : Grows s k t) : Grows s k (Machine.poweredDown t) := { h with }

/-! ## The bodies -/

theorem txModeBody (h : Grows s k t) : Grows s (k + 2) (Machine.txModeBody t) := ((h.cfgUpdate _ _).setCE _).wait _

theorem rxModeBody (h : Grows s k t) : Grows s (k + 2) (Machine.rxModeBody t) := ((h.cfgUpdate _ _).setCE _).wait _

theorem powerUpBody (h : Grows s k t) : Grows s (k + 2) (Machine.powerUpBody t) := (h.cfgUpdate _ _).wait _

theorem powerDownBody (h : Grows s k t) : Grows s (k + 2) (Machine.powerDownBody t) :=
  (h.cfgUpdate 0x00 _).poweredDown

/-- The table may be of any length, so its exchanges are not counted. -/
theorem writeTable (h : Grows s k t) (es : List (BitVec 5 × Byte)) : Grows s k (Machine.writeTable es t) := by
  induction es generalizing t with
  | nil => exact h
  | cons e es ih => exact ih ((h.regWrite _ _).weaken (Nat.le_succ k))

theorem initBody (h : Grows s k t) : Grows s (k + 6) (Machine.initBody t) :=
  ((((((h.setCSN true).setCE _).writeTable _).regWrite _ _).cmd 0xE1 []).cmd 0xE2 [] |>.regWrite _ _).powerUpBody

theorem loadAndFire (h : Grows s k t) (arg : Byte) : Grows s (k + 4) (Machine.loadAndFire arg t) :=
  ((((h.txModeBody.cmd 0xE1 []).cmd 0xA0 _).setCE true).wait _ |>.setCE false).startTimer

/-- However many passes the loop makes; its own exchanges are not counted. -/
theorem pollLoop (h : Grows s k t) (n : Nat) : Grows s k (Machine.pollLoop n t) := by
  induction n generalizing t with
  | zero => exact h.readNow.finish false
  | succ n ih =>
    have hq : Grows s (k + 1) (statusQuery (Machine.readNow t)) := h.readNow.cmd 0xFF []
    rw [pollLoop_succ]
    split_ifs
    · exact h.readNow.finish false
    · exact ((hq.regWrite _ _).finish true).weaken (by omega)
    · exact (((hq.regWrite _ _).cmd 0xE1 []).finish false).weaken (by omega)
    · exact ih ((hq.wait _).weaken (Nat.le_succ k))

theorem readPayload (h : Grows s k t) : Grows s (k + 2) (Machine.readPayload t) := by
  have hsize : Grows s k { t with rxlen := t.payloadSize } := { h with }
  have hread := hsize.cmd 0x61 (List.replicate t.payloadSize.toNat t.cfg.fill)
  have hstored (buf : Vector Byte 32) : Grows s (k + 1) { Machine.cmd 0x61 (List.replicate t.payloadSize.toNat t.cfg.fill)
    { t with rxlen := t.payloadSize } with rxbuf := buf } := { hread with }
  exact ((hstored _).regWrite _ _).finish true

theorem receiveBody (h : Grows s k t) : Grows s (k + 3) (Machine.receiveBody t) := by
  have hq : Grows s (k + 3) (statusQuery (Machine.rxModeBody t)) := h.rxModeBody.cmd 0xFF []
  simp only [Machine.receiveBody]
  split
  · exact hq.readPayload.weaken (by omega)
  · exact hq.finish false

end Grows

/-! ## Instructions -/

/-- Every instruction makes at least one exchange: its transactions are counted, but for those of a loop. -/
theorem exec_grows {i : Instr} {s t : State} (ht : exec i s = .next t) : ∃ k, Grows s (k + 1) t := by
  have hs := Grows.refl s
  have hu := hs.accept
  cases i with
  | readRegister addr => cases ht; exact ⟨_, hs.regReadBlock addr _⟩
  | writeRegister addr => cases ht; exact ⟨_, hs.regWriteBlock addr _⟩
  | readRxPayload => cases ht; exact ⟨_, hs.cmd 0x61 _⟩
  | writeTxPayload => cases ht; exact ⟨_, hs.cmd 0xA0 _⟩
  | flushTx => cases ht; exact ⟨_, hs.cmd 0xE1 []⟩
  | flushRx => cases ht; exact ⟨_, hs.cmd 0xE2 []⟩
  | reuseTxPayload => cases ht; exact ⟨_, hs.cmd 0xE3 []⟩
  | nop => cases ht; exact ⟨_, hs.cmd 0xFF []⟩
  | init => cases ht; exact ⟨_, ((hu _).initBody.finish true).keepDeviceIf _⟩
  | setTxMode => cases ht; exact ⟨_, ((hu _).txModeBody.finish true).keepDeviceIf _⟩
  | setRxMode => cases ht; exact ⟨_, ((hu _).rxModeBody.finish true).keepDeviceIf _⟩
  | transmit arg => cases ht; exact ⟨_, (((hu _).loadAndFire arg).pollLoop _).keepDeviceIf _⟩
  | receive => cases ht; exact ⟨_, (hu _).receiveBody.keepDeviceIf _⟩
  | setChannel => cases ht; exact ⟨_, (((hu _).regWrite 0x05 _).finish true).keepDeviceIf _⟩
  | setPayloadSize arg =>
    have hsize (p : BitVec 6) : Grows s 0 { accept .setPayloadSize s with payloadSize := p } := { hu .setPayloadSize with }
    cases ht; exact ⟨_, (((hsize _).regWrite 0x11 _).finish true).keepDeviceIf _⟩
  | setAddress => cases ht; exact ⟨_, ((((hu _).regWriteBlock 0x10 _).regWriteBlock 0x0A _).finish true).keepDeviceIf _⟩
  | getStatus =>
    have hq := (hu .getStatus).cmd 0xFF []
    have hlatched (b : Byte) : Grows s 1 { statusQuery (accept .getStatus s) with rbyte := b } := { hq with }
    cases ht; exact ⟨_, ((hlatched _).finish true).keepDeviceIf _⟩
  | powerUp => cases ht; exact ⟨_, ((hu _).powerUpBody.finish true).keepDeviceIf _⟩
  | powerDown => cases ht; exact ⟨_, ((hu _).powerDownBody.finish true).keepDeviceIf _⟩

/-- Settles O52: the named operations of each instruction only add, and one of them is a transaction. -/
theorem traceAndTimeOnlyGrow : Obligations.TraceAndTimeOnlyGrow := by
  intro i s t _ ht
  obtain ⟨k, ⟨es, hes⟩, htime, hdrawn⟩ := exec_grows ht
  exact ⟨⟨es, hes.symm⟩, htime, by omega⟩

end Sys2Proof.Machine
end

section
/-! Command bytes (R85, R86, R88): which byte each bus command has, and which bytes are none's. -/

namespace Sys2Proof.Machine

/-! ## The register bytes -/

/-- The byte of a register read is the bits 000 above the address (R85). -/
theorem readByte_setWidth (a : BitVec 5) : readByte (a.setWidth 8) = (0 : BitVec 3) ++ a := by
  revert a; decide

/-- The byte of a register write is the bits 001 above the address (R85). -/
theorem writeByte_setWidth (a : BitVec 5) : writeByte (a.setWidth 8) = (1 : BitVec 3) ++ a := by
  revert a; decide

/-- A byte is its three command bits above its five address bits (R85). -/
theorem commandBits_append_addressBits (b : Byte) : b.extractLsb' 5 3 ++ b.extractLsb' 0 5 = b :=
  BitVec.extractLsb'_append_extractLsb'

/-- An address operand below 32 is its own low five bits (R60). -/
theorem setWidth_setWidth_of_lt (a : Byte) (h : a.toNat < 32) : (a.setWidth 5).setWidth 8 = a := by
  apply BitVec.eq_of_toNat_eq
  simp only [BitVec.toNat_setWidth]
  omega

/-! ## Bus commands and their bytes -/

/-- What a byte decodes to has that byte (R86). -/
theorem busByte_of_decodeBus {b : Byte} {c : BusCmd} (h : decodeBus b = some c) : busByte c = b := by
  unfold decodeBus at h
  split_ifs at h with hread hwrite <;> cases h
  · rw [busByte, readByte_setWidth, ← hread, commandBits_append_addressBits]
  · rw [busByte, writeByte_setWidth, ← hwrite, commandBits_append_addressBits]
  all_goals exact Eq.symm ‹_›

/-- The code of a bus command's instruction is the command's byte. -/
theorem encode_instrOfBus (c : BusCmd) : encode (instrOfBus c) = .bus (busByte c) := by
  cases c <;> rfl

/-- The address operand a bus command carries is its 5-bit address. -/
theorem instrOfBus_wellFormed (c : BusCmd) : (instrOfBus c).wellFormed = true := by
  cases c with
  | readRegister a | writeRegister a =>
    have ha : (a.setWidth 8).toNat < 32 := by rw [BitVec.toNat_setWidth_of_le (by decide)]; exact a.isLt
    exact decide_eq_true ha
  | _ => rfl

/-- A decoder's branch gives nothing where it is not taken and the branches after it give nothing. -/
theorem ite_some_eq_none {α : Type} {p : Prop} [Decidable p] {a : α} {rest : Option α} :
    (if p then some a else rest) = none ↔ ¬ p ∧ rest = none := by
  by_cases hp : p <;> simp [hp]

/-- The bytes that are no command, by range (R88). -/
theorem decodeBus_eq_none (b : Byte) : decodeBus b = none ↔
    (0x40 ≤ b.toNat ∧ b.toNat ≤ 0x60) ∨ (0x62 ≤ b.toNat ∧ b.toNat ≤ 0x9F) ∨ (0xA1 ≤ b.toNat ∧ b.toNat ≤ 0xE0) ∨
      (0xE4 ≤ b.toNat ∧ b.toNat ≤ 0xFE) := by
  have hb : b.toNat < 256 := b.isLt
  simp only [decodeBus, ite_some_eq_none, BitVec.toNat_eq, BitVec.extractLsb'_toNat, Nat.shiftRight_eq_div_pow, BitVec.reduceToNat,
    and_true]
  omega

/-! ## Codes of the bus format -/

theorem decode_bus_of_some {b : Byte} {c : BusCmd} (h : decodeBus b = some c) : decode (.bus b) = .ok (instrOfBus c) := by
  simp only [decode, h]

theorem decode_bus_eq_error (b : Byte) : decode (.bus b) = .error (.unlistedCommand b) ↔ decodeBus b = none := by
  cases h : decodeBus b <;> simp [decode, h]

/-- A byte that decodes is the byte of a bus command. -/
theorem exists_busCmd_of_decode {b : Byte} {i : Instr} (h : decode (.bus b) = .ok i) :
    ∃ c : BusCmd, busByte c = b ∧ instrOfBus c = i := by
  cases hc : decodeBus b with
  | some c => exact ⟨c, busByte_of_decodeBus hc, Except.ok.inj ((decode_bus_of_some hc).symm.trans h)⟩
  | none => rw [(decode_bus_eq_error b).mpr hc] at h; cases h

end Sys2Proof.Machine
end

section
/-! Host words (R81, R82, R84): a word is its `op` field above its `arg` field, and the decoder reads the two fields. -/

namespace Sys2Proof.Machine

/-! ## The two fields -/

@[simp] theorem hostOp_hostWord (op : BitVec 4) (arg : Byte) : hostOp (hostWord op arg) = op :=
  BitVec.extractLsb'_append_eq_left

@[simp] theorem hostArg_hostWord (op : BitVec 4) (arg : Byte) : hostArg (hostWord op arg) = arg :=
  BitVec.extractLsb'_append_eq_right

/-- A word whose `op` is known is that `op` above the word's `arg` (R81). -/
theorem hostWord_hostArg {w : BitVec 12} {op : BitVec 4} (h : hostOp w = op) : hostWord op (hostArg w) = w := by
  rw [← h]
  exact BitVec.extractLsb'_append_extractLsb'

theorem hostOp_toNat (w : BitVec 12) : (hostOp w).toNat = w.toNat / 256 := by
  have hw : w.toNat < 4096 := w.isLt
  rw [hostOp, BitVec.extractLsb'_toNat, Nat.shiftRight_eq_div_pow]
  omega

/-! ## Decoding a word -/

/-- One branch of `decodeHost` answers an instruction with the word's code if its row of R82 and the branches after it do. -/
theorem encode_of_hostBranch {w : BitVec 12} {op : BitVec 4} {j i : Instr} {rest : Option Instr}
    (hrow : j.wellFormed = true ∧ encode j = .host (hostWord op (hostArg w)))
    (hrest : rest = some i → i.wellFormed = true ∧ encode i = .host w) :
    (if hostOp w = op then some j else rest) = some i → i.wellFormed = true ∧ encode i = .host w := by
  split
  case isTrue hop =>
    rintro ⟨rfl⟩
    rwa [hostWord_hostArg hop] at hrow
  case isFalse => exact hrest

/-- What a host word decodes to has that word as its code (R82). -/
theorem encode_of_decodeHost {w : BitVec 12} {i : Instr} :
    decodeHost w = some i → i.wellFormed = true ∧ encode i = .host w := by
  unfold decodeHost
  iterate 11 refine encode_of_hostBranch ⟨rfl, rfl⟩ ?_
  exact nofun

/-- The words that name no operation are those with an `op` from 0xB on (R84). -/
theorem decodeHost_eq_none (w : BitVec 12) : decodeHost w = none ↔ 0xB00 ≤ w.toNat := by
  have hw : w.toNat < 4096 := w.isLt
  simp only [decodeHost, ite_some_eq_none, BitVec.toNat_eq, hostOp_toNat, BitVec.reduceToNat, and_true]
  omega

theorem decode_host_eq_ok (w : BitVec 12) (i : Instr) : decode (.host w) = .ok i ↔ decodeHost w = some i := by
  cases h : decodeHost w <;> simp [decode, h]

theorem decode_host_eq_error (w : BitVec 12) : decode (.host w) = .error (.reservedHostCode w) ↔ decodeHost w = none := by
  cases h : decodeHost w <;> simp [decode, h]

end Sys2Proof.Machine
end

section
/-! The statements about encodings (R81 to R88), and what a step does with a code presented (R84, R214). -/

namespace Sys2Proof.Machine

/-! ## A code presented at the host port -/

/-- A configured idle engine's step on a code presented is the run of that code on the inputs presented (R214). -/
theorem step_of_present {s : State} {c : Code} {len : Fin 33} {data : Vector Byte 32} {rest : List HostMove}
    (hidle : s.busy = false) (hcfg : configOk s.cfg = true) (hhost : s.host = .present c len data :: rest) :
    step s = runCode c (presented len data { s with host := rest }) := by
  simp [step, hidle, hcfg, nextMove, hhost]

/-- A code that is no instruction is refused by the name of its rejection (R84). -/
theorem runCode_of_error {c : Code} {e : Reject} (h : decode c = .error e) (s : State) :
    runCode c s = .refused (.noInstruction e) := by
  simp only [runCode, h]

/-! ## The statements -/

/-- Settles O1: a register access by its 5-bit address, a host operation by the fields of its word. -/
theorem encodeThenDecode : Obligations.EncodeThenDecode := by
  intro i hi
  cases i with
  | readRegister a =>
    rw [encode, decode_bus_of_some (decodeBus_readByte a), instrOfBus, setWidth_setWidth_of_lt a (of_decide_eq_true hi)]
  | writeRegister a =>
    rw [encode, decode_bus_of_some (decodeBus_writeByte a), instrOfBus, setWidth_setWidth_of_lt a (of_decide_eq_true hi)]
  | readRxPayload | writeTxPayload | flushTx | flushRx | reuseTxPayload | nop => rfl
  | init arg | setTxMode arg | setRxMode arg | transmit arg | receive arg | setChannel arg | setPayloadSize arg | setAddress arg
  | getStatus arg | powerUp arg | powerDown arg =>
    rw [encode, decode_host_eq_ok]
    simp [decodeHost]

/-- Settles O2: a byte that decodes is a bus command's, a word that decodes is a row's of R82. -/
theorem decodeThenEncode : Obligations.DecodeThenEncode := by
  intro c i h
  cases c with
  | bus b =>
    obtain ⟨c, rfl, rfl⟩ := exists_busCmd_of_decode h
    exact ⟨instrOfBus_wellFormed c, encode_instrOfBus c⟩
  | host w => exact encode_of_decodeHost ((decode_host_eq_ok w i).mp h)

/-- Settles O4: no branch of the decoder takes a word from 0xB00 on, and `runCode` passes the rejection on. -/
theorem reservedHostCodesRefused : Obligations.ReservedHostCodesRefused := by
  intro w hw
  have hreject : decode (.host w) = .error (.reservedHostCode w) := (decode_host_eq_error w).mpr ((decodeHost_eq_none w).mpr hw)
  exact ⟨hreject, fun s len data rest hidle hcfg hhost =>
    (step_of_present hidle hcfg hhost).trans (runCode_of_error hreject _)⟩

/-- Settles O3: each code is concrete. -/
theorem sampleCodesDecode : Obligations.SampleCodesDecode := ⟨rfl, rfl, rfl, rfl, rfl, rfl, rfl, rfl⟩

/-- Settles O5: `decode` refuses a byte exactly where the device's table has no command. -/
theorem unlistedCommandBytes : Obligations.UnlistedCommandBytes := fun b =>
  (decode_bus_eq_error b).trans (decodeBus_eq_none b)

/-- Settles O53: the arms of these operations drop `arg`, so neither premise is needed. -/
theorem argumentIgnored : Obligations.ArgumentIgnored := fun _ _ _ =>
  ⟨rfl, fun _ => ⟨rfl, rfl, rfl, rfl, rfl, rfl, fun _ => rfl⟩⟩

end Sys2Proof.Machine
end

section
/-! Register access and the payload FIFOs: a bus command presented alone is one transaction (R100, R104 to R113), and what TRANSMIT has
queued when chip-enable rises (R161). -/

namespace Sys2Proof.Machine

/-! ## A transaction presented alone -/

variable (c : Byte) (out : List Byte) (s : State)

/-- A transaction leaves of the engine what R100 says, the shadows and the record of MODE too. -/
theorem cmd_busFrame : BusFrame s (cmd c out s) ∧ SameShadows s (cmd c out s) := by
  simp [BusFrame, SameResults, SameInputs, SameShadows]

/-- A read of a register, a load, a flush and a no-op change no register and clear no flag (R34, R106, R109 to R113). -/
theorem cmd_keepsRegisters (h : decodeBus c = some .writeTxPayload ∨ decodeBus c = some .flushTx ∨ decodeBus c = some .flushRx ∨
    decodeBus c = some .nop ∨ ∃ a, decodeBus c = some (.readRegister a)) :
    SameCells s (cmd c out s) [] ∧ KeepsFlags s (cmd c out s) := by
  have hregs : (cmd c out s).dev.regs = s.dev.regs := cmd_regs_same c out s h
  obtain ⟨g, hg⟩ := cmd_flags_kept c out s (h.imp_right (.imp_right (.imp_right (.imp_right .inl))))
  exact ⟨fun _ _ => by rw [hregs], keepsFlags_of_orFlags _ _ g hg⟩

/-- The clauses common to the commands without data: one exchange in one frame, and the engine's frame (R100). -/
theorem cmd_nil_completes : ∃ st : Byte, (cmd c [] s).trace = s.trace ++ [.sel, .x c st, .desel] ∧ (cmd c [] s).statusL = st ∧
    (cmd c [] s).csn = true ∧ (cmd c [] s).idx = 0 ∧ (cmd c [] s).dataIn = [] ∧ BusFrame s (cmd c [] s) ∧
    SameShadows s (cmd c [] s) := by
  obtain ⟨ins, hlen, hins, _, hidx, _, hcsn⟩ := cmd_spec c [] s
  obtain ⟨hframe, hshadows⟩ := cmd_busFrame c [] s
  exact ⟨_, cmd_nil_trace c s, rfl, hcsn, hidx, hins.trans (List.length_eq_zero_iff.mp hlen), hframe, hshadows⟩

/-! ## Payloads -/

/-- The bytes of a load: the first `n` of `HDATA`, then zeros (R162). -/
theorem framedPayload_getD (hdata : Vector Byte 32) (n : Nat) (p : BitVec 6) (hn : n ≤ 32) (i : Nat) :
    (framedPayload hdata n p).getD i 0 = if i < n then hdata.toList.getD i 0 else 0 := by
  have hlen : (hdata.toList.take n).length = n := length_take_hdata hdata ⟨n, Nat.lt_succ_of_le hn⟩
  split
  case isTrue hi =>
    rw [framedPayload, List.getD_append _ _ _ _ (by omega)]
    simp [List.getD_eq_getElem?_getD, hi]
  case isFalse hi =>
    rw [framedPayload, List.getD_append_right _ _ _ _ (by omega), List.getD_eq_getElem?_getD,
      List.getElem?_getD_replicate_default_eq]

/-- The bytes a transaction returns are those of its data phase (R100). -/
theorem cmd_dataIn : (cmd c out s).dataIn = (xferAll c out (xferCommand c (holdCSN (setCSN false s)))).dataIn := by simp [cmd]

/-- No exchange reads `RXLEN` (R30). -/
theorem xferAll_dataIn_of_rxlen (r : BitVec 6) : (xferAll c out { s with rxlen := r }).dataIn = (xferAll c out s).dataIn := by
  induction out generalizing s with
  | nil => rfl
  | cons x xs ih => exact ih (xferData c x s)

/-- A payload read presented alone returns the bytes RECEIVE's returns, which sets `RXLEN` before it (R108, R172). -/
theorem payloadRead_dataIn_eq : (payloadRead s).dataIn = (cmd 0x61 (List.replicate s.payloadSize.toNat s.cfg.fill) s).dataIn := by
  rw [payloadRead, cmd_dataIn, cmd_dataIn]
  exact xferAll_dataIn_of_rxlen 0x61 _ (xferCommand 0x61 (holdCSN (setCSN false s))) s.payloadSize

/-- Where the widths agree a payload read changes no register and clears no flag (R108). -/
theorem cmd_readRxPayload_keepsRegisters (h : s.widthAgrees = true) : SameCells s (cmd 0x61 out s) [] ∧ KeepsFlags s (cmd 0x61 out s) := by
  have hdev := cmd_readRxPayload_dev out s h
  obtain ⟨⟨g, hg⟩, _⟩ := frameOf_device 0x61 out s
  exact ⟨fun _ _ => by rw [hdev, frameOf_regs], keepsFlags_of_orFlags _ _ g (by rw [hdev, hg])⟩

end Sys2Proof.Machine
end

section
/-! The statements about bus commands presented alone (R100 to R113), and about TRANSMIT's queue (R161). -/

namespace Sys2Proof.Machine

/-- Settles O13: the clauses all four share, and what each but 0xE3 leaves in the device. -/
theorem commandsWithoutData : Obligations.CommandsWithoutData := by
  intro s
  refine ⟨?each, ⟨_, rfl, flushTxFifo_empty s⟩, ⟨_, rfl, flushRxFifo_empty s⟩⟩
  case each =>
    intro p hp
    have hcommand : exec p.1 s = .next (cmd p.2 [] s) ∧ (p.1 ≠ .reuseTxPayload →
        decodeBus p.2 = some .flushTx ∨ decodeBus p.2 = some .flushRx ∨ decodeBus p.2 = some .nop) := by
      simp only [List.mem_cons, List.not_mem_nil, or_false] at hp
      obtain rfl | rfl | rfl | rfl := hp
      · exact ⟨rfl, fun _ => .inl rfl⟩
      · exact ⟨rfl, fun _ => .inr (.inl rfl)⟩
      · exact ⟨rfl, fun h => absurd rfl h⟩
      · exact ⟨rfl, fun _ => .inr (.inr rfl)⟩
    obtain ⟨hexec, hdecode⟩ := hcommand
    obtain ⟨st, htrace, hst, hcsn, hidx, hin, hframe, hshadows⟩ := cmd_nil_completes p.2 s
    exact ⟨_, st, hexec, htrace, hst, hcsn, hidx, hin, hframe, hshadows,
      fun h => cmd_keepsRegisters p.2 [] s (.inr ((hdecode h).imp_right (.imp_right .inl)))⟩

/-- Settles O14: the read is one transaction of a read command, and its length fits `idx`. -/
theorem readRegisterCompletes : Obligations.ReadRegisterCompletes := by
  intro s a
  obtain ⟨hlen, htrace⟩ := regReadBlock_spec a s.callLen.val s
  obtain ⟨hframe, hshadows⟩ := cmd_busFrame (readByte a) (List.replicate s.callLen.val s.cfg.fill) s
  obtain ⟨hcells, hflags⟩ := cmd_keepsRegisters (readByte a) (List.replicate s.callLen.val s.cfg.fill) s
    (.inr (.inr (.inr (.inr ⟨_, decodeBus_readByte a⟩))))
  have hidx : (regReadBlock a s.callLen.val s).idx.toNat = s.callLen.val := by
    rw [regReadBlock, cmd_idx, List.length_replicate, BitVec.toNat_ofNat]
    omega
  exact ⟨regReadBlock a s.callLen.val s, _, _, rfl, hlen, htrace, rfl, rfl, cmd_csn _ _ s, hidx, hframe, hshadows, hcells, hflags⟩

/-- Settles O16: the transaction is the one RECEIVE makes, so a trusted device returns its oldest payload. -/
theorem readRxPayloadCompletes : Obligations.ReadRxPayloadCompletes := by
  intro s
  obtain ⟨ins, hlen, hins, htrace, hidx, _, hcsn⟩ := cmd_spec 0x61 (List.replicate s.payloadSize.toNat s.cfg.fill) s
  obtain ⟨hframe, hshadows⟩ := cmd_busFrame 0x61 (List.replicate s.payloadSize.toNat s.cfg.fill) s
  rw [List.length_replicate] at hlen hidx
  refine ⟨_, _, ins, rfl, hlen, htrace, hins, rfl, hcsn, hidx.trans (by simp), hframe, hshadows,
    cmd_readRxPayload_keepsRegisters _ s, fun payload later hconf hinit hw hquiet hfifo hpayload => ?oldest⟩
  case oldest =>
    have htrust : s.trusts = true := by simp [State.trusts, hconf, hinit]
    rw [← payloadRead_dataIn_eq]
    exact payloadRead_dataIn s payload later htrust hw hquiet hfifo hpayload

/-- Settles O17: the load is one transaction with the framed payload, which the device appends to its queue. -/
theorem writeTxPayloadCompletes : Obligations.WriteTxPayloadCompletes := by
  intro s hp
  obtain ⟨n, hn⟩ : ∃ n, n = min s.callLen.val s.payloadSize.toNat := ⟨_, rfl⟩
  have hout : (framedPayload s.hdata n s.payloadSize).length = s.payloadSize.toNat :=
    framedPayload_length s.hdata n s.payloadSize (by omega) hp
  obtain ⟨ins, hlen, _, htrace, hidx, _, hcsn⟩ := cmd_spec 0xA0 (framedPayload s.hdata n s.payloadSize) s
  obtain ⟨hframe, hshadows⟩ := cmd_busFrame 0xA0 (framedPayload s.hdata n s.payloadSize) s
  obtain ⟨hcells, hflags⟩ := cmd_keepsRegisters 0xA0 (framedPayload s.hdata n s.payloadSize) s (.inl rfl)
  obtain ⟨_, queued, hqueued, hfifo⟩ := loadPayload_device (framedPayload s.hdata n s.payloadSize) s
  refine ⟨cmd 0xA0 (framedPayload s.hdata n s.payloadSize) s, _, ins, _, queued, by rw [hn]; rfl, hout, hlen, fun i hi => ?bytes,
    htrace, hfifo, rfl, hcsn, ?idx, hframe, hshadows, hcells, hflags, hqueued⟩
  case bytes =>
    have hshort : i < n ↔ i < s.callLen.val := by omega
    rw [framedPayload_getD s.hdata n s.payloadSize (by omega) i]
    simp only [hshort]
  case idx => rw [hidx, hout]; simp

/-- Settles O59: pulse and timer leave the device as the load left it. -/
theorem transmitQueuesOnePayload : Obligations.TransmitQueuesOnePayload := fun s arg _ =>
  ⟨loadedState arg s, loadAndFire_eq arg s, loadedState_txFifo arg s⟩

end Sys2Proof.Machine
end

section
/-! The constraints (a) to (g) of R150 on INIT's table, read off the bytes by the layouts of R151 (log 14). -/

namespace Sys2Proof.Machine

/-- The clauses of `initTableOk` that no operation reads, and so `configOk_spec` does not name: (b) to (e). -/
theorem tableLayout_of_configOk (c : Config) (h : configOk c = true) :
    (∃ e ∈ c.initTable, e.1 = 0x04 ∧ selectsRetransmit c e.2 = true) ∧
    (∃ e ∈ c.initTable, e.1 = 0x02 ∧ enablesPipes01 e.2 = true) ∧
    (∃ e ∈ c.initTable, e.1 = 0x03 ∧ selectsAddrLen c e.2 = true) ∧
    ∀ e ∈ c.initTable, leavesDynamicOff e = true := by
  simp only [configOk, initTableOk, Bool.and_eq_true, List.any_eq_true, List.all_eq_true, beq_iff_eq] at h
  obtain ⟨_, ⟨⟨⟨⟨⟨_, hretransmit⟩, hpipes⟩, haddr⟩, hdynamic⟩, _⟩, _⟩ := h
  exact ⟨hretransmit, hpipes, haddr, hdynamic⟩

/-- The six pipe bits of a byte, where its low field is known (R151). -/
theorem getLsbD_of_pipeField {v : Byte} {f : BitVec 6} (h : v.extractLsb' 0 6 = f) (i : Nat) (hi : i < 6) :
    v.getLsbD i = f.getLsbD i := by
  rw [← h, BitVec.getLsbD_extractLsb', Nat.zero_add, decide_eq_true hi, Bool.true_and]

/-- Three retransmits at 250 us are the byte 0x03: the count in the low half, no spacing step in the high half (R151). -/
theorem selectsRetransmit_iff (c : Config) (v : Byte) (hcount : c.retxCount = 3) (hdelay : c.retxDelayUs = 250) :
    selectsRetransmit c v = true ↔ v = 0x03 := by
  rw [selectsRetransmit, hcount, hdelay]
  revert v
  decide

/-- Pipes 0 and 1 alone (R150 (c)). -/
theorem enablesPipes01_bits {v : Byte} (h : enablesPipes01 v = true) (i : Nat) (hi : i < 6) : v.getLsbD i = decide (i < 2) := by
  have hbits : ∀ i : Fin 6, (0x03 : BitVec 6).getLsbD i = decide (i.val < 2) := by decide
  rw [getLsbD_of_pipeField (beq_iff_eq.mp h) i hi]
  exact hbits ⟨i, hi⟩

/-- Dynamic payload length off on every pipe (R150 (e)). -/
theorem leavesDynamicOff_bits {e : BitVec 5 × Byte} (h : leavesDynamicOff e = true) (h1C : e.1 = 0x1C) (i : Nat) (hi : i < 6) :
    e.2.getLsbD i = false := by
  have hfield : e.2.extractLsb' 0 6 = 0 := by simpa [leavesDynamicOff, h1C] using h
  rw [getLsbD_of_pipeField hfield i hi, BitVec.ofNat_eq_ofNat, BitVec.getLsbD_zero]

theorem reservedAddr_eq_false (a : BitVec 5) : reservedAddr a = false ↔ ¬ (0x18 ≤ a.toNat ∧ a.toNat ≤ 0x1B) ∧ a.toNat < 0x1E := by
  simp [reservedAddr]

/-- Settles O58, clause by clause. -/
theorem initTablesMeetTheConstraints : Obligations.InitTablesMeetTheConstraints := by
  intro c h
  obtain ⟨_, _, _, _, haddrLen, _, _, _, _, _, _, _, _, _, _, hconfig, haddrs, hnodup⟩ := configOk_spec c h
  obtain ⟨_, _, _, hcount, hdelay⟩ := unreadValues_of_configOk c h
  obtain ⟨⟨e4, he4, h4, hretransmit⟩, ⟨e2, he2, h2, hpipes⟩, ⟨e3, he3, h3, haddr⟩, hdynamic⟩ := tableLayout_of_configOk c h
  rw [selectsAddrLen, haddrLen, beq_iff_eq] at haddr
  refine ⟨hconfig, ⟨e4, he4, h4, (selectsRetransmit_iff c e4.2 hcount hdelay).mp hretransmit⟩,
    ⟨e2, he2, h2, enablesPipes01_bits hpipes⟩, ⟨e3, he3, h3, haddr⟩, fun e he => leavesDynamicOff_bits (hdynamic e he),
    fun e he => ?addrs, hnodup⟩
  case addrs =>
    obtain ⟨h7, h11, hreserved⟩ := haddrs e he
    exact ⟨h7, h11, (reservedAddr_eq_false e.1).mp hreserved⟩

end Sys2Proof.Machine
end

section
/-! The mode and power operations (R141 to R145): after INIT each is its body, and its body writes register 0x00 alone. -/

namespace Sys2Proof.Machine

/-! ## What runs after INIT -/

section
variable (arg : Byte) (s : State) (h : s.inited = true)
include h

theorem exec_setTxMode : exec (.setTxMode arg) s = .next (finish true (txModeBody (accept .setTxMode s))) :=
  hostOperation_inited .setTxMode (fun u => finish true (txModeBody u)) s h

theorem exec_setRxMode : exec (.setRxMode arg) s = .next (finish true (rxModeBody (accept .setRxMode s))) :=
  hostOperation_inited .setRxMode (fun u => finish true (rxModeBody u)) s h

theorem exec_powerUp : exec (.powerUp arg) s = .next (finish true (powerUpBody (accept .powerUp s))) :=
  hostOperation_inited .powerUp (fun u => finish true (powerUpBody u)) s h

theorem exec_powerDown : exec (.powerDown arg) s = .next (finish true (powerDownBody (accept .powerDown s))) :=
  hostOperation_inited .powerDown (fun u => finish true (powerDownBody u)) s h

end

/-! ## The configuration register -/

/-- A record's two bits of register 0x00 differ (R10). -/
theorem modeBits_ne {c : Config} (h : configOk c = true) : c.rxmodeBit ≠ c.powerBit := by
  obtain ⟨_, _, _, _, _, _, _, _, _, _, _, _, _, _, hbits, _⟩ := configOk_spec c h
  exact hbits

/-- What it means that the cell of register 0x00 took `b` and every other cell stayed (R141). -/
theorem configCell_written {s t : State} {b : Byte}
    (h : ∀ c, Memory.read t.dev.regs c = if c = cellOf 0x00 0 then b else Memory.read s.dev.regs c) :
    t.devReg 0x00 0 = b ∧ SameCells s t [cellOf 0x00 0] :=
  ⟨(h _).trans (if_pos rfl), fun c hc => (h c).trans (if_neg (by simpa using hc))⟩

/-- `poweredDown` keeps registers and flags where the device is taken to keep what was written (R38, log 25). -/
theorem poweredDown_kept (s : State) (h : s.conforming = true) :
    (poweredDown s).dev.regs = s.dev.regs ∧ (poweredDown s).dev.flags = s.dev.flags := by
  simp [h]

theorem powerDownBody_keepsFlags (s : State) (h : s.conforming = true) : KeepsFlags s (powerDownBody s) := by
  obtain ⟨g, hg⟩ := cfgUpdate_flags 0x00 (pwrMask s.cfg) s
  obtain ⟨_, hflags⟩ := poweredDown_kept (cfgUpdate 0x00 (pwrMask s.cfg) s) (by simpa using h)
  exact keepsFlags_of_orFlags _ _ g (hflags.trans hg)

/-- On a trusted device an update that clears one bit changes that bit of register 0x00 alone (R38, R141). -/
theorem configBit_of_clear {s t : State} {i : Fin 8} (op : HostOp) (hc : s.conforming = true) (hinit : s.inited = true)
    (hm : Memory.wf s.dev.regs = true) (ht : t.dev.regs = (cfgUpdate 0x00 (bitMask i) (accept op s)).dev.regs) (j : Fin 8) :
    (t.devReg 0x00 0).getLsbD j = if j = i then false else (s.devReg 0x00 0).getLsbD j := by
  obtain ⟨_, _, _, _, hregs⟩ := cfgUpdate_clear_spec i (accept op s)
  have hread : cfgRead (accept op s) = s.devReg 0x00 0 := cfgRead_trusted (accept op s) (by simp [State.trusts, hc, hinit])
  rw [State.devReg, ht, hregs hm, if_pos rfl, hread, mask_clear_bit]

/-- So does one that sets one bit. -/
theorem configBit_of_set {s t : State} {i : Fin 8} (op : HostOp) (hc : s.conforming = true) (hinit : s.inited = true)
    (hm : Memory.wf s.dev.regs = true) (ht : t.dev.regs = (cfgUpdate (bitMask i) 0x00 (accept op s)).dev.regs) (j : Fin 8) :
    (t.devReg 0x00 0).getLsbD j = if j = i then true else (s.devReg 0x00 0).getLsbD j := by
  obtain ⟨_, _, _, _, hregs⟩ := cfgUpdate_set_spec i (accept op s)
  have hread : cfgRead (accept op s) = s.devReg 0x00 0 := cfgRead_trusted (accept op s) (by simp [State.trusts, hc, hinit])
  rw [State.devReg, ht, hregs hm, if_pos rfl, hread, mask_set_bit]

/-! ## The statements -/

/-- Settles O19: the body, accepted and finished. -/
theorem setTxModeCompletes : Obligations.SetTxModeCompletes := by
  intro s arg ⟨hinit, hcfg⟩
  obtain ⟨_, _, _, _, _, hsettle, _⟩ := configOk_spec s.cfg hcfg
  obtain ⟨⟨st, r, htrace⟩, hpwr, hrx, hce, hcsn, hmodes, _, _, hnow, hregs⟩ :=
    txModeBody_spec (accept .setTxMode s) (modeBits_ne hcfg)
  have hexec := exec_setTxMode arg s hinit
  rw [accept_cfg, hsettle] at htrace hnow
  refine ⟨_, st, cfgRead (accept .setTxMode s), _, r, hexec, htrace, ⟨rfl, rfl, rfl, hcsn⟩, hce, hrx, hpwr, rfl, ?modes, ?time,
    exec_payloadSize hexec (by simp), exec_inited hexec (by simp), ?t0,
    ⟨exec_rbyte hexec (by simp), exec_rxbuf hexec (by simp)⟩, exec_sameInputs hexec,
    cfgUpdate_keepsFlags 0x00 (rxMask s.cfg) (accept .setTxMode s), fun hm => configCell_written (hregs hm).2⟩
  case modes => simpa [hpwr] using hmodes
  case time => rw [finish_now, hnow, accept_now]; omega
  case t0 => simp

/-- Settles O20, as O19, with the record's own settle time. -/
theorem setRxModeCompletes : Obligations.SetRxModeCompletes := by
  intro s arg ⟨hinit, hcfg⟩
  obtain ⟨⟨st, r, htrace⟩, hpwr, hrx, hce, hcsn, hmodes, _, _, hnow, hregs⟩ :=
    rxModeBody_spec (accept .setRxMode s) (modeBits_ne hcfg)
  have hexec := exec_setRxMode arg s hinit
  refine ⟨_, st, cfgRead (accept .setRxMode s), _, r, hexec, htrace, ⟨rfl, rfl, rfl, hcsn⟩, hce, hrx, hpwr, rfl, ?modes, ?time,
    exec_payloadSize hexec (by simp), exec_inited hexec (by simp), ?t0,
    ⟨exec_rbyte hexec (by simp), exec_rxbuf hexec (by simp)⟩, exec_sameInputs hexec,
    cfgUpdate_keepsFlags (rxMask s.cfg) 0x00 (accept .setRxMode s), fun hm => configCell_written (hregs hm).2⟩
  case modes => simpa [hpwr] using hmodes
  case time => rw [finish_now, hnow, accept_now, accept_cfg]; omega
  case t0 => simp

/-- Settles O21: the body leaves `CE`, so the one MODE it records has the old one. -/
theorem powerUpCompletes : Obligations.PowerUpCompletes := by
  intro s arg ⟨hinit, hcfg⟩
  obtain ⟨_, _, _, _, _, _, hpwrup, _⟩ := configOk_spec s.cfg hcfg
  obtain ⟨⟨st, r, htrace⟩, hpwr, hrx, hce, hcsn, hmodes, _, _, hnow, hregs⟩ :=
    powerUpBody_spec (accept .powerUp s) (modeBits_ne hcfg)
  have hexec := exec_powerUp arg s hinit
  rw [accept_cfg, hpwrup] at htrace hnow
  refine ⟨_, st, cfgRead (accept .powerUp s), _, r, hexec, htrace, ⟨rfl, rfl, rfl, hcsn⟩, hce, hpwr, hrx, rfl, ?modes, ?time,
    exec_payloadSize hexec (by simp), exec_inited hexec (by simp), ?t0,
    ⟨exec_rbyte hexec (by simp), exec_rxbuf hexec (by simp)⟩, exec_sameInputs hexec,
    cfgUpdate_keepsFlags (pwrMask s.cfg) 0x00 (accept .powerUp s), fun hm => configCell_written (hregs hm).2⟩
  case modes => simpa [hrx] using hmodes
  case time => rw [finish_now, hnow, accept_now]; omega
  case t0 => simp

/-- Settles O22: `poweredDown` keeps registers and flags under R38 alone, so the device's clauses have that premise. -/
theorem powerDownCompletes : Obligations.PowerDownCompletes := by
  intro s arg ⟨hinit, hcfg⟩
  obtain ⟨⟨st, r, htrace⟩, hpwr, hrx, hce, hcsn, _, _, hticks, _, _, hregs⟩ :=
    powerDownBody_spec (accept .powerDown s) (modeBits_ne hcfg)
  have hexec := exec_powerDown arg s hinit
  refine ⟨_, st, cfgRead (accept .powerDown s), _, r, hexec, htrace, ⟨rfl, rfl, rfl, hcsn⟩, hce, hpwr, hrx, ?mode, rfl, hticks,
    exec_payloadSize hexec (by simp), exec_inited hexec (by simp), ?t0,
    ⟨exec_rbyte hexec (by simp), exec_rxbuf hexec (by simp)⟩, exec_sameInputs hexec,
    powerDownBody_keepsFlags (accept .powerDown s), fun hc hm => configCell_written (hregs hc hm)⟩
  case mode => simp [State.mode, modeOf, hpwr]
  case t0 => simp

/-- Settles O23: each body is the update of its bit, and what follows the update leaves the registers. -/
theorem configUpdateChangesOneBit : Obligations.ConfigUpdateChangesOneBit := by
  intro s arg hc hinit hm p hp
  simp only [List.mem_cons, List.not_mem_nil, or_false] at hp
  obtain rfl | rfl | rfl | rfl := hp
  · exact ⟨_, exec_setTxMode arg s hinit, configBit_of_clear .setTxMode hc hinit hm rfl⟩
  · exact ⟨_, exec_setRxMode arg s hinit, configBit_of_set .setRxMode hc hinit hm rfl⟩
  · exact ⟨_, exec_powerUp arg s hinit, configBit_of_set .powerUp hc hinit hm rfl⟩
  · obtain ⟨hregs, _⟩ := poweredDown_kept (cfgUpdate 0x00 (pwrMask s.cfg) (accept .powerDown s)) (by simpa using hc)
    exact ⟨_, exec_powerDown arg s hinit, configBit_of_clear .powerDown hc hinit hm hregs⟩

end Sys2Proof.Machine
end

section
/-! INIT (R149): the table writes one by one, the state before its power up, and the statements about it. -/

namespace Sys2Proof.Machine

/-! ## Register addresses -/

/-- Registers of different addresses have different first cells (R36). -/
theorem cellOf_zero_inj (a b : BitVec 5) : cellOf a 0 = cellOf b 0 ↔ a = b := by simp [cellOf, BitVec.toNat_inj]

/-- An address is its own mask (R62). -/
theorem addr_masked (a : BitVec 5) : a.setWidth 8 &&& (0x1F : Byte) = a.setWidth 8 := by revert a; decide

/-- The command byte of a write to a register (R87). -/
theorem writeByte_addr (a : BitVec 5) : writeByte (a.setWidth 8) = 0x20 ||| a.setWidth 8 := by rw [writeByte, addr_masked]

/-- Only the address 0x00 is the operand the shadows follow (R24). -/
theorem addr_masked_eq_zero (a : BitVec 5) : a.setWidth 8 &&& (0x1F : Byte) = 0 ↔ a = 0x00 := by revert a; decide

/-! ## The table (R149) -/

/-- One transaction for each entry, in list order. -/
theorem writeTable_trace (es : List (BitVec 5 × Byte)) (s : State) : ∃ replies : List (Byte × Byte), replies.length = es.length ∧
    (writeTable es s).trace = s.trace ++
      (List.zipWith (fun e q => txn (0x20 ||| e.1.setWidth 8) q.1 [e.2] [q.2]) es replies).flatten := by
  induction es generalizing s with
  | nil => exact ⟨[], rfl, (List.append_nil _).symm⟩
  | cons e es ih =>
    obtain ⟨r, hr⟩ := regWrite_spec (e.1.setWidth 8) e.2 s
    obtain ⟨replies, hlen, htrace⟩ := ih (regWrite (e.1.setWidth 8) e.2 s)
    refine ⟨((regWrite (e.1.setWidth 8) e.2 s).statusL, r) :: replies, congrArg Nat.succ hlen, ?_⟩
    rw [writeTable, htrace, hr, writeByte_addr, List.append_assoc]
    rfl

/-- MODE follows each byte written to register 0x00 and no other (R24, R146). -/
theorem writeTable_modes (es : List (BitVec 5 × Byte)) (s : State) : (writeTable es s).modes.map Prod.snd =
    s.modes.map Prod.snd ++ (es.filter (fun e => e.1 == 0x00)).map
      (fun e => modeOf (e.2.getLsbD s.cfg.powerBit) (e.2.getLsbD s.cfg.rxmodeBit) s.ce) := by
  induction es generalizing s with
  | nil => simp [writeTable]
  | cons e es ih =>
    have hcfg : (regWrite (e.1.setWidth 8) e.2 s).cfg = s.cfg := by simp
    have hce : (regWrite (e.1.setWidth 8) e.2 s).ce = s.ce := by simp
    rw [writeTable, ih, hcfg, hce]
    by_cases h0 : e.1 = 0x00
    · obtain ⟨_, _, hmodes⟩ := regWrite_zero_shadows e.2 s
      have haddr : e.1.setWidth 8 = (0x00 : Byte) := by rw [h0]; rfl
      rw [haddr, hmodes]
      simp only [List.filter_cons, h0, beq_self_eq_true, if_true, List.map_cons, List.append_assoc, List.singleton_append]
    · obtain ⟨_, _, hmodes⟩ := regWrite_other_shadows (e.1.setWidth 8) e.2 s (mt (addr_masked_eq_zero e.1).mp h0)
      simp only [hmodes, List.filter_cons, beq_iff_eq, h0, if_false]

/-- Each register of the table holds its entry, and every other cell is as it was (R149, R150 (f), (g)). -/
theorem writeTable_read (es : List (BitVec 5 × Byte)) (s : State) (haddrs : ∀ e ∈ es, e.1 ≠ 0x07 ∧ reservedAddr e.1 = false)
    (hnodup : (es.map Prod.fst).Nodup) (hm : Memory.wf s.dev.regs = true) :
    (∀ e ∈ es, (writeTable es s).devReg e.1 0 = e.2) ∧ SameCells s (writeTable es s) (es.map (fun e => cellOf e.1 0)) := by
  induction es generalizing s with
  | nil => exact ⟨by simp, fun _ _ => rfl⟩
  | cons e es ih =>
    rw [List.forall_mem_cons] at haddrs
    rw [List.map_cons, List.nodup_cons] at hnodup
    obtain ⟨⟨h7, hreserved⟩, haddrs⟩ := haddrs
    obtain ⟨hfresh, hnodup⟩ := hnodup
    have haddr : (e.1.setWidth 8).setWidth 5 = e.1 := by simp
    have hwrite := regWrite_read (e.1.setWidth 8) e.2 s (by rwa [haddr]) (by rwa [haddr]) hm
    rw [haddr] at hwrite
    obtain ⟨hentries, hcells⟩ := ih (regWrite (e.1.setWidth 8) e.2 s) haddrs hnodup (regWrite_wf _ _ s hm)
    refine ⟨List.forall_mem_cons.mpr ⟨?first, hentries⟩, fun c hc => ?others⟩
    case first =>
      have hnot : cellOf e.1 0 ∉ es.map (fun e => cellOf e.1 0) := by
        intro hmem
        obtain ⟨e', he', heq⟩ := List.mem_map.mp hmem
        exact hfresh (List.mem_map.mpr ⟨e', he', (cellOf_zero_inj _ _).mp heq⟩)
      exact (hcells _ hnot).trans ((hwrite _).trans (if_pos rfl))
    case others =>
      rw [List.map_cons, List.mem_cons, not_or] at hc
      exact (hcells c hc.2).trans ((hwrite c).trans (if_neg hc.1))

theorem writeTable_wf (es : List (BitVec 5 × Byte)) (s : State) (hm : Memory.wf s.dev.regs = true) :
    Memory.wf (writeTable es s).dev.regs = true := by
  induction es generalizing s with
  | nil => exact hm
  | cons e es ih => exact ih _ (regWrite_wf _ _ s hm)

/-! ## Before the power up -/

/-- INIT after the table and the pipe-0 width (R149). -/
def initWritten (s : State) : State :=
  s |> setCSN true |> setCE false |> writeTable s.cfg.initTable |> regWrite 0x11 (s.payloadSize.setWidth 8)

/-- INIT up to the power up, which is the rest of it (R149). -/
def initCleared (s : State) : State := s |> initWritten |> flushTxFifo |> flushRxFifo |> clearFlags s.cfg.clrAll

theorem initBody_eq (s : State) : initBody s = powerUpBody (initCleared s) := rfl

/-- What INIT leaves of the device is known, whether or not INIT has run before (R236). -/
theorem exec_init (arg : Byte) (s : State) : exec (.init arg) s = .next (finish true (powerUpBody (initCleared (accept .init s)))) := by
  have hknown : (s.inited || decide (HostOp.init = .init)) = true := by simp
  rw [exec, execInit, hostOperation_next, hknown]
  rfl

variable (s : State)

theorem initWritten_trace : ∃ (replies : List (Byte × Byte)) (st11 r11 : Byte), replies.length = s.cfg.initTable.length ∧
    (initWritten s).trace = s.trace ++ [.desel, .ce0] ++
      (List.zipWith (fun e q => txn (0x20 ||| e.1.setWidth 8) q.1 [e.2] [q.2]) s.cfg.initTable replies).flatten ++
      txn 0x31 st11 [s.payloadSize.setWidth 8] [r11] := by
  obtain ⟨replies, hlen, htable⟩ := writeTable_trace s.cfg.initTable (setCE false (setCSN true s))
  obtain ⟨r11, hwidth⟩ := regWrite_spec 0x11 (s.payloadSize.setWidth 8)
    (writeTable s.cfg.initTable (setCE false (setCSN true s)))
  have hlines : (setCE false (setCSN true s)).trace = s.trace ++ [.desel, .ce0] := by simp
  rw [htable, hlines] at hwidth
  exact ⟨replies, _, r11, hlen, hwidth⟩

theorem initCleared_trace : ∃ (replies : List (Byte × Byte)) (st11 r11 stTx stRx st07 r07 : Byte),
    replies.length = s.cfg.initTable.length ∧ (initCleared s).trace = s.trace ++ [.desel, .ce0] ++
      (List.zipWith (fun e q => txn (0x20 ||| e.1.setWidth 8) q.1 [e.2] [q.2]) s.cfg.initTable replies).flatten ++
      txn 0x31 st11 [s.payloadSize.setWidth 8] [r11] ++ txn 0xE1 stTx [] [] ++ txn 0xE2 stRx [] [] ++
      txn 0x27 st07 [s.cfg.clrAll] [r07] := by
  obtain ⟨replies, st11, r11, hlen, hwritten⟩ := initWritten_trace s
  obtain ⟨r07, hclear⟩ := clearFlags_spec s.cfg.clrAll (flushRxFifo (flushTxFifo (initWritten s)))
  rw [flushRxFifo_trace, flushTxFifo_trace, hwritten] at hclear
  exact ⟨replies, st11, r11, _, _, _, r07, hlen, hclear⟩

@[simp] theorem initCleared_frame : (initCleared s).payloadSize = s.payloadSize ∧ (initCleared s).t0 = s.t0 ∧
    (initCleared s).cfg = s.cfg ∧ (initCleared s).conforming = s.conforming ∧ (initCleared s).seq = s.seq ∧
    (initCleared s).ce = false := by
  simp [initCleared, initWritten]

theorem initCleared_modes : (initCleared s).modes.map Prod.snd = s.modes.map Prod.snd ++ [modeOf s.pwrS s.rxS false] ++
    (s.cfg.initTable.filter (fun e => e.1 == 0x00)).map
      (fun e => modeOf (e.2.getLsbD s.cfg.powerBit) (e.2.getLsbD s.cfg.rxmodeBit) false) := by
  obtain ⟨_, hce⟩ := setCE_spec false (setCSN true s)
  obtain ⟨_, _, hwidth⟩ := regWrite_other_shadows 0x11 (s.payloadSize.setWidth 8)
    (writeTable s.cfg.initTable (setCE false (setCSN true s))) (by decide)
  have hcleared : (initCleared s).modes = (initWritten s).modes := by simp [initCleared]
  rw [hcleared, initWritten, hwidth, writeTable_modes, hce]
  rfl

theorem initCleared_regs : (initCleared s).dev.regs = (initWritten s).dev.regs := by simp [initCleared, clearFlags_regs]

theorem initWritten_wf (hm : Memory.wf s.dev.regs = true) : Memory.wf (initWritten s).dev.regs = true :=
  regWrite_wf _ _ _ (writeTable_wf _ (setCE false (setCSN true s)) hm)

/-- Each register of the table and the width hold what INIT wrote, every other cell is as it was (R149, R150). -/
theorem initWritten_read (hcfg : configOk s.cfg = true) (hm : Memory.wf s.dev.regs = true) :
    (∀ e ∈ s.cfg.initTable, (initWritten s).devReg e.1 0 = e.2) ∧ (initWritten s).devReg 0x11 0 = s.payloadSize.setWidth 8 ∧
    SameCells s (initWritten s) (cellOf 0x11 0 :: s.cfg.initTable.map (fun e => cellOf e.1 0)) := by
  obtain ⟨_, _, _, _, _, _, _, _, _, _, _, _, _, _, _, _, haddrs, hnodup⟩ := configOk_spec s.cfg hcfg
  obtain ⟨hentries, hcells⟩ := writeTable_read s.cfg.initTable (setCE false (setCSN true s))
    (fun e he => ⟨(haddrs e he).1, (haddrs e he).2.2⟩) hnodup hm
  have hwidth := regWrite_read 0x11 (s.payloadSize.setWidth 8) (writeTable s.cfg.initTable (setCE false (setCSN true s)))
    (by decide) (by decide) (writeTable_wf _ (setCE false (setCSN true s)) hm)
  refine ⟨fun e he => ?entry, (hwidth _).trans (if_pos rfl), fun c hc => ?others⟩
  case entry =>
    have h11 : e.1 ≠ 0x11 := (haddrs e he).2.1
    exact (hwidth _).trans ((if_neg (mt (cellOf_zero_inj _ _).mp h11)).trans (hentries e he))
  case others =>
    rw [List.mem_cons, not_or] at hc
    exact (hwidth c).trans ((if_neg hc.1).trans (hcells c hc.2))

theorem initWritten_grows : Grows s 1 (initWritten s) :=
  (((Grows.refl s).setCSN true).setCE false).writeTable _ |>.regWrite 0x11 _

theorem initCleared_grows : Grows s 4 (initCleared s) :=
  (((initWritten_grows s).cmd 0xE1 []).cmd 0xE2 []).regWrite 0x07 _

/-! ## The statements -/

/-- Settles O25: the events and MODE before the power up, then the power up's. -/
theorem initCompletes : Obligations.InitCompletes := by
  intro s arg hcfg
  obtain ⟨_, _, _, _, _, _, hpwrup, _⟩ := configOk_spec s.cfg hcfg
  have hexec := exec_init arg s
  have hc : (initCleared (accept .init s)).cfg = s.cfg := by simp
  obtain ⟨replies, st11, r11, stTx, stRx, st07, r07, hlen, hbefore⟩ := initCleared_trace (accept .init s)
  obtain ⟨⟨st, r, htrace⟩, hpwr, hrx, hce, hcsn, hmodes, _, _, hnow, _⟩ :=
    powerUpBody_spec (initCleared (accept .init s)) (by rw [hc]; exact modeBits_ne hcfg)
  rw [hbefore, hc, hpwrup] at htrace
  rw [initCleared_modes] at hmodes
  refine ⟨_, replies, st11, r11, stTx, stRx, st07, r07, st, cfgRead (initCleared (accept .init s)), _, r, hexec, hlen, htrace,
    ⟨rfl, rfl, rfl, hcsn⟩, ?inited, ?ce, hpwr, ?rx, rfl, exec_payloadSize hexec (by simp), ?t0,
    ⟨exec_rbyte hexec (by simp), exec_rxbuf hexec (by simp)⟩, exec_sameInputs hexec, ?time, ?modes⟩
  case inited => simp
  case ce => simp
  case rx =>
    have hbit := mask_set_bit (cfgRead (initCleared (accept .init s))) s.cfg.powerBit s.cfg.rxmodeBit
    rw [if_neg (modeBits_ne hcfg)] at hbit
    rw [hc] at hrx
    exact hrx.trans hbit.symm
  case t0 => simp
  case time =>
    have hearlier : s.now ≤ (initCleared (accept .init s)).now := (initCleared_grows (accept .init s)).time
    rw [finish_now, hnow, hc, hpwrup]
    omega
  case modes => simpa [hrx] using hmodes

/-- Settles O26: the power up rewrites register 0x00 alone. -/
theorem initWritesTheTable : Obligations.InitWritesTheTable := by
  intro s arg hcfg hm
  have hc : (initCleared (accept .init s)).cfg = s.cfg := by simp
  obtain ⟨hentries, hwidth, hcells⟩ := initWritten_read (accept .init s) hcfg hm
  obtain ⟨_, _, _, _, _, _, _, _, _, hpower⟩ :=
    powerUpBody_spec (initCleared (accept .init s)) (by rw [hc]; exact modeBits_ne hcfg)
  rw [initCleared_regs] at hpower
  obtain ⟨_, hread⟩ := hpower (initWritten_wf (accept .init s) hm)
  have hother (a : BitVec 5) (ha : a ≠ 0x00) : (finish true (powerUpBody (initCleared (accept .init s)))).devReg a 0 =
      (initWritten (accept .init s)).devReg a 0 := (hread _).trans (if_neg (mt (cellOf_zero_inj a 0x00).mp ha))
  refine ⟨_, exec_init arg s, fun e he h0 => (hother e.1 h0).trans (hentries e he), (hother 0x11 (by decide)).trans hwidth,
    fun c hcell => ?_⟩
  rw [List.mem_cons, not_or] at hcell
  exact (hread c).trans ((if_neg hcell.1).trans (hcells c hcell.2))

end Sys2Proof.Machine
end

section
/-! Shadows and widths in step with the device (R146, R239). `State.InStep` is the part of `State.Synced` that holds inside an operation
too: `CE` follows the receive-mode bit only at an operation's end. Each named operation keeps it, or, where it writes register 0x00
or the width register, establishes it. -/

namespace Sys2Proof.Machine

/-- The shadows are the bits of register 0x00 (R24) and the widths agree (R239). -/
structure State.InStep (s : State) : Prop where
  configured : configOk s.cfg = true
  canonical : Memory.wf s.dev.regs = true
  widths : s.widthAgrees = true
  power : s.pwrS = (s.devReg 0x00 0).getLsbD s.cfg.powerBit
  receive : s.rxS = (s.devReg 0x00 0).getLsbD s.cfg.rxmodeBit

theorem synced_iff (s : State) : s.Synced ↔ s.InStep ∧ s.conforming = true ∧ s.inited = true ∧ s.ce = s.rxS := by
  constructor
  · rintro ⟨hc, hi, hcfg, hm, hw, hpwr, hrx, hce⟩
    exact ⟨⟨hcfg, hm, hw, hpwr, hrx⟩, hc, hi, hce⟩
  · rintro ⟨⟨hcfg, hm, hw, hpwr, hrx⟩, hc, hi, hce⟩
    exact ⟨hc, hi, hcfg, hm, hw, hpwr, hrx, hce⟩

/-- Three modes are left where `CE` is the receive-mode bit (R25, R146). -/
theorem mode_of_ce_eq_rxS {s : State} (h : s.ce = s.rxS) :
    s.mode = .powerDown ∨ s.mode = .standbyTxConfigured ∨ s.mode = .activeRx := by
  rw [State.mode, h]
  cases s.pwrS
  · exact .inl rfl
  · cases s.rxS
    · exact .inr (.inl rfl)
    · exact .inr (.inr rfl)

/-! ## Writes that establish it -/

/-- The width register and `payload_size` agree after a write of the size (R192, R239). -/
theorem regWrite_widthAgrees (v : Byte) (s : State) (hm : Memory.wf s.dev.regs = true) (hv : v.toNat = s.payloadSize.toNat) :
    (regWrite 0x11 v s).widthAgrees = true := by
  have hcell : (regWrite 0x11 v s).devReg 0x11 0 = v := (regWrite_read 0x11 v s (by decide) (by decide) hm _).trans (if_pos rfl)
  have hsize : (regWrite 0x11 v s).payloadSize = s.payloadSize := by simp
  rw [State.widthAgrees, hcell, hsize, hv]
  exact decide_eq_true rfl

/-- The update writes the shadows and register 0x00 by one byte, whatever it read, and no other register (R141). -/
theorem cfgUpdate_inStep (set clr : Byte) (s : State) (hcfg : configOk s.cfg = true) (hm : Memory.wf s.dev.regs = true)
    (hw : s.widthAgrees = true) : (cfgUpdate set clr s).InStep := by
  obtain ⟨hpwr, hrx, _⟩ := cfgUpdate_shadows set clr s
  have hread := cfgUpdate_read set clr s hm
  have hc : (cfgUpdate set clr s).cfg = s.cfg := by simp
  have hsize : (cfgUpdate set clr s).payloadSize = s.payloadSize := by simp
  have h00 : (cfgUpdate set clr s).devReg 0x00 0 = cfgWritten set clr s := (hread _).trans (if_pos rfl)
  have h11 : (cfgUpdate set clr s).devReg 0x11 0 = s.devReg 0x11 0 := (hread _).trans (if_neg (by decide))
  exact ⟨by rwa [hc], cfgUpdate_wf set clr s hm, by rwa [State.widthAgrees, h11, hsize], by rw [hpwr, h00, hc],
    by rw [hrx, h00, hc]⟩

namespace State.InStep

variable {s t : State}

/-- It speaks of the record, the size, the device's registers and the shadows. -/
theorem of_same (h : s.InStep) (hcfg : t.cfg = s.cfg) (hsize : t.payloadSize = s.payloadSize) (hregs : t.dev.regs = s.dev.regs)
    (hpwr : t.pwrS = s.pwrS) (hrx : t.rxS = s.rxS) : t.InStep := by
  have hreg : t.devReg = s.devReg := by funext a i; rw [State.devReg, hregs, State.devReg]
  obtain ⟨h1, h2, h3, h4, h5⟩ := h
  exact ⟨by rwa [hcfg], by rwa [hregs], by rwa [State.widthAgrees, hreg, hsize], by rwa [hpwr, hreg, hcfg], by rwa [hrx, hreg, hcfg]⟩

/-! ## The named operations -/

theorem setCE (h : s.InStep) (b : Bool) : (Machine.setCE b s).InStep := { h with }

theorem wait (h : s.InStep) (n : Nat) : (Machine.wait n s).InStep := { h with }

theorem readNow (h : s.InStep) : (Machine.readNow s).InStep := { h with }

theorem startTimer (h : s.InStep) : (Machine.startTimer s).InStep := { h with }

theorem accept (h : s.InStep) (op : HostOp) : (Machine.accept op s).InStep := { h with }

theorem finish (h : s.InStep) (b : Bool) : (Machine.finish b s).InStep := { h with }

theorem keepDeviceIf (h : s.InStep) {known : Bool} (hknown : known = true) : (Machine.keepDeviceIf known s).InStep :=
  h.of_same rfl rfl (by simp [hknown]) rfl rfl

theorem poweredDown (h : s.InStep) (hc : s.conforming = true) : (Machine.poweredDown s).InStep :=
  h.of_same rfl rfl (poweredDown_kept s hc).1 rfl rfl

/-- A load, a flush, a no-op and a read leave every register (R106, R109 to R113). -/
theorem cmd (h : s.InStep) (c : Byte) (out : List Byte) (hc : decodeBus c = some .writeTxPayload ∨ decodeBus c = some .flushTx ∨
    decodeBus c = some .flushRx ∨ decodeBus c = some .nop ∨ ∃ a, decodeBus c = some (.readRegister a)) :
    (Machine.cmd c out s).InStep :=
  h.of_same (by simp) (by simp) (cmd_regs_same c out s hc) (by simp) (by simp)

theorem statusQuery (h : s.InStep) : (Machine.statusQuery s).InStep := h.cmd 0xFF [] (.inr (.inr (.inr (.inl rfl))))

theorem flushTxFifo (h : s.InStep) : (Machine.flushTxFifo s).InStep := h.cmd 0xE1 [] (.inr (.inl rfl))

theorem clearFlags (h : s.InStep) (m : Byte) : (Machine.clearFlags m s).InStep :=
  h.of_same (by simp) (by simp) (clearFlags_regs m s) (by simp) (by simp)

theorem cfgUpdate (h : s.InStep) (set clr : Byte) : (Machine.cfgUpdate set clr s).InStep :=
  cfgUpdate_inStep set clr s h.configured h.canonical h.widths

/-- A write to a register that is neither 0x00 nor the width register (R105, R107). -/
theorem regWriteBlock (h : s.InStep) (a : Byte) (bs : List Byte) (hr : reservedAddr (a.setWidth 5) = false)
    (hw : bs.length ≤ (regWidth (a.setWidth 5)).getD 32) (h7 : a.setWidth 5 ≠ (0x07 : BitVec 5))
    (h0 : a.setWidth 5 ≠ (0x00 : BitVec 5)) (h11 : a.setWidth 5 ≠ (0x11 : BitVec 5)) : (Machine.regWriteBlock a bs s).InStep := by
  have hother (b : BitVec 5) (hb : a.setWidth 5 ≠ b) : (Machine.regWriteBlock a bs s).devReg b 0 = s.devReg b 0 := by
    have hwidth : ∀ b : BitVec 5, (regWidth b).getD 32 ≤ 32 := by decide
    refine regWriteBlock_sameCells a bs s hr hw h7 h.canonical _ fun hmem => hb ?_
    obtain ⟨i, hi, heq⟩ := List.mem_map.mp hmem
    have hi32 : i < 32 := (List.mem_range.mp hi).trans_le (hw.trans (hwidth _))
    simp only [cellOf] at heq
    exact BitVec.eq_of_toNat_eq (by omega)
  obtain ⟨hpwr, hrx, _⟩ := regWriteBlock_shadows_same a bs s (.inl h0)
  have hc : (Machine.regWriteBlock a bs s).cfg = s.cfg := by simp
  have hsize : (Machine.regWriteBlock a bs s).payloadSize = s.payloadSize := by simp
  obtain ⟨h1, h2, h3, h4, h5⟩ := h
  exact ⟨by rwa [hc], regWriteBlock_wf a bs s h2, by rwa [State.widthAgrees, hother 0x11 h11, hsize],
    by rwa [hpwr, hother 0x00 h0, hc], by rwa [hrx, hother 0x00 h0, hc]⟩

/-- A write of the size to both sides of the width (R192). -/
theorem resize (h : s.InStep) (p : BitVec 6) (v : Byte) (hv : v.toNat = p.toNat) :
    (Machine.regWrite 0x11 v { s with payloadSize := p }).InStep := by
  obtain ⟨hpwr, hrx, _⟩ := regWrite_other_shadows 0x11 v { s with payloadSize := p } (by decide)
  have h00 : (Machine.regWrite 0x11 v { s with payloadSize := p }).devReg 0x00 0 = s.devReg 0x00 0 :=
    (regWrite_read 0x11 v { s with payloadSize := p } (by decide) (by decide) h.canonical _).trans (if_neg (by decide))
  have hc : (Machine.regWrite 0x11 v { s with payloadSize := p }).cfg = s.cfg := by simp
  exact ⟨by rw [hc]; exact h.configured, regWrite_wf 0x11 v _ h.canonical, regWrite_widthAgrees v _ h.canonical hv,
    by rw [hpwr, h00, hc]; exact h.power, by rw [hrx, h00, hc]; exact h.receive⟩

/-! ## The bodies -/

theorem txModeBody (h : s.InStep) : (Machine.txModeBody s).InStep := ((h.cfgUpdate _ _).setCE _).wait _

theorem rxModeBody (h : s.InStep) : (Machine.rxModeBody s).InStep := ((h.cfgUpdate _ _).setCE _).wait _

theorem powerUpBody (h : s.InStep) : (Machine.powerUpBody s).InStep := (h.cfgUpdate _ _).wait _

theorem powerDownBody (h : s.InStep) (hc : s.conforming = true) : (Machine.powerDownBody s).InStep :=
  (h.cfgUpdate 0x00 (pwrMask s.cfg)).poweredDown (by simpa using hc)

theorem loadAndFire (h : s.InStep) (arg : Byte) : (Machine.loadAndFire arg s).InStep :=
  ((((h.txModeBody.flushTxFifo.cmd 0xA0 _ (.inl rfl)).setCE true).wait _).setCE false).startTimer

theorem pollLoop (h : s.InStep) (k : Nat) : (Machine.pollLoop k s).InStep := by
  induction k generalizing s with
  | zero => exact h.readNow.finish false
  | succ k ih =>
    have hq := h.readNow.statusQuery
    rw [pollLoop_succ]
    split_ifs
    · exact h.readNow.finish false
    · exact (hq.clearFlags _).finish true
    · exact (hq.clearFlags _).flushTxFifo.finish false
    · exact ih (hq.wait _)

/-- Neither exit of RECEIVE writes a register of the device or a shadow, where the widths agree (R171). -/
theorem receiveExit (h : s.InStep) (hcsn : s.csn = true) : (Machine.receiveExit s).InStep := by
  obtain ⟨_, _, _, _, hpwr, hrx, _⟩ := receiveExit_common s hcsn
  have hkept : (Machine.receiveExit s).cfg = s.cfg ∧ (Machine.receiveExit s).payloadSize = s.payloadSize := by
    unfold Machine.receiveExit
    split <;> simp
  exact h.of_same hkept.1 hkept.2 (receiveExit_regs s h.widths) hpwr hrx

theorem receiveBody (h : s.InStep) : (Machine.receiveBody s).InStep := h.rxModeBody.statusQuery.receiveExit (by simp)

/-- A power operation rereads the receive-mode bit the shadow holds (R38, R144, R145). -/
theorem cfgRead_rxmodeBit (h : s.InStep) (ht : s.trusts = true) : (cfgRead s).getLsbD s.cfg.rxmodeBit = s.rxS := by
  rw [cfgRead_trusted s ht, h.receive]

end State.InStep

end Sys2Proof.Machine
end

section
/-! The agreement of the shadows, the widths and `CE` between host operations: INIT establishes it, every host operation keeps it
(R146, R239). -/

namespace Sys2Proof.Machine

/-! ## INIT -/

/-- The power up writes the shadows with register 0x00, and the size was written before it (R149). -/
theorem initBody_inStep (s : State) (hcfg : configOk s.cfg = true) (hm : Memory.wf s.dev.regs = true) : (initBody s).InStep := by
  obtain ⟨_, hwidth, _⟩ := initWritten_read s hcfg hm
  have hcleared : (initCleared s).devReg 0x11 0 = s.payloadSize.setWidth 8 :=
    (congrArg (Memory.read · _) (initCleared_regs s)).trans hwidth
  have hsize : (initCleared s).payloadSize = s.payloadSize := by simp
  have hw : (initCleared s).widthAgrees = true := by
    rw [State.widthAgrees, hcleared, hsize, BitVec.toNat_setWidth_of_le (by decide)]
    exact decide_eq_true rfl
  exact (cfgUpdate_inStep (pwrMask (initCleared s).cfg) 0x00 (initCleared s) (by simpa using hcfg)
    (by rw [initCleared_regs]; exact initWritten_wf s hm) hw).wait _

/-- On a trusted device INIT's power up reads the table's byte for register 0x00, whose receive-mode bit is clear (R150 (a)). -/
theorem initBody_rxS (s : State) (hcfg : configOk s.cfg = true) (hm : Memory.wf s.dev.regs = true)
    (ht : (initCleared s).trusts = true) : (initBody s).rxS = false := by
  obtain ⟨_, _, _, _, _, _, _, _, _, _, _, _, _, _, hbits, ⟨e, he, h0, hbit⟩, _⟩ := configOk_spec s.cfg hcfg
  obtain ⟨hentries, _⟩ := initWritten_read s hcfg hm
  have hc : (initCleared s).cfg = s.cfg := by simp
  obtain ⟨_, _, hrx, _⟩ := powerUpBody_spec (initCleared s) (by rwa [hc])
  have hread : cfgRead (initCleared s) = e.2 := by
    rw [cfgRead_trusted _ ht, State.devReg, initCleared_regs, ← hentries e he, h0]
    rfl
  rw [initBody_eq, hrx, hread, hc, hbit]

/-- Settles O49: the power up writes the shadows with register 0x00, and the device is trusted during INIT. -/
theorem initEstablishesModesInStep : Obligations.InitEstablishesModesInStep := by
  intro s t arg hc hcfg hm ht
  obtain rfl := Host.Outcome.next.inj ((exec_init arg s).symm.trans ht)
  have htrust : (initCleared (accept .init s)).trusts = true := by simp [State.trusts, hc]
  have hrx : (initBody (accept .init s)).rxS = false := initBody_rxS (accept .init s) hcfg hm htrust
  have hcfg' : configOk (initCleared (accept .init s)).cfg = true := by simpa using hcfg
  obtain ⟨_, hpwr, _, hce, _⟩ := powerUpBody_spec (initCleared (accept .init s)) (modeBits_ne hcfg')
  have hlow : (initBody (accept .init s)).ce = false := hce.trans (by simp)
  refine ⟨(synced_iff _).mpr ⟨(initBody_inStep (accept .init s) hcfg hm).finish true, ?conforming, ?inited, hlow.trans hrx.symm⟩, ?mode⟩
  case conforming => simpa using hc
  case inited => simp
  case mode =>
    rw [initBody_eq] at hrx
    simp [State.mode, modeOf, hpwr, hrx]

/-! ## Every host operation -/

/-- Nothing but reset clears `inited` (R26). -/
theorem exec_keeps_inited {i : Instr} {s t : State} (ht : exec i s = .next t) (hinit : s.inited = true) : t.inited = true := by
  cases i with
  | init => cases ht; simp [hinit]
  | _ => exact (exec_inited ht (by simp)).trans hinit

/-- A host operation is one of the eleven (R82). -/
theorem not_bus_of_decode_host {w : BitVec 12} {i : Instr} (h : decode (.host w) = .ok i) : ∀ b, encode i ≠ .bus b := by
  obtain ⟨_, henc⟩ := decodeThenEncode _ _ h
  rw [henc]
  exact nofun

/-- From a synced state every host operation ends in step, with `CE` the receive-mode bit: the mode operations, TRANSMIT, RECEIVE and
INIT write both, the power operations reread the bit from a trusted device, and the others write neither (R146). -/
theorem hostOperation_keeps_inStep {i : Instr} {s t : State} (hhost : ∀ b, encode i ≠ .bus b) (hs : s.Synced)
    (ht : exec i s = .next t) : t.InStep ∧ t.ce = t.rxS := by
  obtain ⟨h, hc, hinit, hce⟩ := (synced_iff s).mp hs
  have hbits := modeBits_ne h.configured
  have hu (op : HostOp) : (accept op s).InStep := h.accept op
  have htrust (op : HostOp) : (accept op s).trusts = true := by simp [State.trusts, hc, hinit]
  have hknown (op : HostOp) : (s.inited || decide (op = .init)) = true := by simp [hinit]
  cases i with
  | readRegister | writeRegister | readRxPayload | writeTxPayload | flushTx | flushRx | reuseTxPayload | nop =>
    exact absurd rfl (hhost _)
  | init arg =>
    obtain ⟨hsync, _⟩ := initEstablishesModesInStep s t arg hc h.configured h.canonical ht
    obtain ⟨hstep, _, _, hce'⟩ := (synced_iff t).mp hsync
    exact ⟨hstep, hce'⟩
  | setTxMode =>
    obtain ⟨_, _, hrx, hlow, _⟩ := txModeBody_spec (accept .setTxMode s) hbits
    cases ht; exact ⟨((hu _).txModeBody.finish true).keepDeviceIf (hknown _), hlow.trans hrx.symm⟩
  | setRxMode =>
    obtain ⟨_, _, hrx, hhigh, _⟩ := rxModeBody_spec (accept .setRxMode s) hbits
    cases ht; exact ⟨((hu _).rxModeBody.finish true).keepDeviceIf (hknown _), hhigh.trans hrx.symm⟩
  | transmit arg =>
    obtain ⟨_, _, hrx, _⟩ := txModeBody_spec (accept .transmit s) hbits
    cases ht
    exact ⟨(((hu _).loadAndFire arg).pollLoop _).keepDeviceIf (hknown _), by simp [loadAndFire, pulseCE, hrx]⟩
  | receive =>
    obtain ⟨_, hrx, hhigh, _⟩ := receiveQuery_spec s h.configured
    obtain ⟨_, _, _, hce', _, hrx', _⟩ := receiveExit_common (receiveQuery s) (by simp)
    cases ht
    exact ⟨(hu _).receiveBody.keepDeviceIf (hknown _), (hce'.trans hhigh).trans (hrx'.trans hrx).symm⟩
  | setChannel arg =>
    obtain ⟨_, hrx, _⟩ := regWrite_other_shadows 0x05 (channelOf s.cfg arg) (accept .setChannel s) (by decide)
    have hstep := (hu .setChannel).regWriteBlock 0x05 [channelOf s.cfg arg] rfl (show 1 ≤ _ by decide) (by decide) (by decide)
      (by decide)
    have hce' := exec_ce ht (by simp)
    cases ht
    exact ⟨(hstep.finish true).keepDeviceIf (hknown _), hce'.trans (hce.trans hrx.symm)⟩
  | setPayloadSize arg =>
    obtain ⟨_, hmax⟩ := clampedSize_range s.cfg arg h.configured
    have hsize : (BitVec.ofNat 8 (clampedSize s.cfg arg)).toNat = (BitVec.ofNat 6 (clampedSize s.cfg arg)).toNat := by
      simp only [BitVec.toNat_ofNat]
      omega
    obtain ⟨_, hrx, _⟩ := regWrite_other_shadows 0x11 (BitVec.ofNat 8 (clampedSize s.cfg arg))
      { accept .setPayloadSize s with payloadSize := BitVec.ofNat 6 (clampedSize s.cfg arg) } (by decide)
    have hce' := exec_ce ht (by simp)
    cases ht
    exact ⟨(((hu .setPayloadSize).resize _ _ hsize).finish true).keepDeviceIf (hknown _), hce'.trans (hce.trans hrx.symm)⟩
  | setAddress =>
    obtain ⟨_, _, _, _, haddrLen, _⟩ := configOk_spec s.cfg h.configured
    have hlen : (addressOf s.cfg s.hdata).length ≤ 5 := (List.length_take_le _ _).trans_eq haddrLen
    have hstep := ((hu .setAddress).regWriteBlock 0x10 (addressOf s.cfg s.hdata) rfl hlen (by decide) (by decide)
      (by decide)).regWriteBlock 0x0A (addressOf s.cfg s.hdata) rfl hlen (by decide) (by decide) (by decide)
    obtain ⟨_, hrx, _⟩ := regWriteBlock_shadows_same 0x10 (addressOf s.cfg s.hdata) (accept .setAddress s) (.inl (by decide))
    obtain ⟨_, hrx', _⟩ := regWriteBlock_shadows_same 0x0A (addressOf s.cfg s.hdata)
      (regWriteBlock 0x10 (addressOf s.cfg s.hdata) (accept .setAddress s)) (.inl (by decide))
    have hce' := exec_ce ht (by simp)
    cases ht
    exact ⟨(hstep.finish true).keepDeviceIf (hknown _), hce'.trans (hce.trans (hrx'.trans hrx).symm)⟩
  | getStatus =>
    have hstep : State.InStep { statusQuery (accept .getStatus s) with rbyte := (statusQuery (accept .getStatus s)).statusL } :=
      { (hu .getStatus).statusQuery with }
    have hce' := exec_ce ht (by simp)
    cases ht
    exact ⟨(hstep.finish true).keepDeviceIf (hknown _), hce'.trans (hce.trans (by simp))⟩
  | powerUp =>
    obtain ⟨_, _, hrx, hce', _⟩ := powerUpBody_spec (accept .powerUp s) hbits
    cases ht
    exact ⟨((hu _).powerUpBody.finish true).keepDeviceIf (hknown _),
      hce'.trans (hce.trans (hrx.trans ((hu .powerUp).cfgRead_rxmodeBit (htrust _))).symm)⟩
  | powerDown =>
    obtain ⟨_, _, hrx, hce', _⟩ := powerDownBody_spec (accept .powerDown s) hbits
    cases ht
    exact ⟨(((hu _).powerDownBody hc).finish true).keepDeviceIf (hknown _),
      hce'.trans (hce.trans (hrx.trans ((hu .powerDown).cfgRead_rxmodeBit (htrust _))).symm)⟩

/-- Settles O48: no host operation but INIT writes `inited`, none the premise of R38, and the mode follows from `CE`. -/
theorem hostOperationsKeepModesInStep : Obligations.HostOperationsKeepModesInStep := by
  intro s t op arg i hdecode hs ht
  have hhost := not_bus_of_decode_host hdecode
  obtain ⟨hstep, hce⟩ := hostOperation_keeps_inStep hhost hs ht
  obtain ⟨_, hc, hinit, _⟩ := (synced_iff s).mp hs
  obtain ⟨_, _, _, _, hconforming, _⟩ := exec_sameInputs ht
  exact ⟨(synced_iff t).mpr ⟨hstep, hconforming.trans hc, exec_keeps_inited ht hinit, hce⟩, mode_of_ce_eq_rxS hce⟩

end Sys2Proof.Machine
end

section
/-! TRANSMIT's statements (R160 to R168): the payload it loads, and its poll loop, which its own deadline ends. -/

namespace Sys2Proof.Machine

/-! ## What the poll loop leaves -/

/-- `t` is `s` after named operations of the poll loop: `CSN` is high, no register of the device changed, and the transmit FIFO gained
nothing. -/
structure Polled (s t : State) : Prop where
  deselected : t.csn = true
  regs : t.dev.regs = s.dev.regs
  queue : t.dev.txFifo.Sublist s.dev.txFifo

namespace Polled

variable {s t : State}

theorem refl (h : s.csn = true) : Polled s s := ⟨h, rfl, List.Sublist.refl _⟩

theorem readNow (h : Polled s t) : Polled s (Machine.readNow t) := { h with }

theorem wait (h : Polled s t) (n : Nat) : Polled s (Machine.wait n t) := { h with }

theorem finish (h : Polled s t) (b : Bool) : Polled s (Machine.finish b t) := { h with }

theorem statusQuery (h : Polled s t) : Polled s (Machine.statusQuery t) := by
  obtain ⟨hqueue, _⟩ := cmd_queues 0xFF [] t (.inl rfl)
  exact ⟨statusQuery_csn t, (statusQuery_regs t).trans h.regs, hqueue.trans h.queue⟩

theorem clearFlags (h : Polled s t) (m : Byte) : Polled s (Machine.clearFlags m t) := by
  obtain ⟨hqueue, _⟩ := regWriteBlock_queues 0x07 [m] t rfl (show 1 ≤ _ by decide)
  exact ⟨clearFlags_csn m t, (clearFlags_regs m t).trans h.regs, hqueue.trans h.queue⟩

theorem flushTxFifo (h : Polled s t) : Polled s (Machine.flushTxFifo t) :=
  ⟨flushTxFifo_csn t, (flushTxFifo_regs t).trans h.regs, by rw [flushTxFifo_empty]; exact List.nil_sublist _⟩

theorem pollLoop (h : Polled s t) (k : Nat) : Polled s (Machine.pollLoop k t) := by
  induction k generalizing t with
  | zero => exact h.readNow.finish false
  | succ k ih =>
    have hq := h.readNow.statusQuery
    rw [pollLoop_succ]
    split_ifs
    · exact h.readNow.finish false
    · exact (hq.clearFlags _).finish true
    · exact (hq.clearFlags _).flushTxFifo.finish false
    · exact ih (hq.wait _)

end Polled

/-- Each of its exits ends by `finish` (R165 to R167). -/
theorem pollLoop_idle (k : Nat) (s : State) : (pollLoop k s).busy = false ∧ (pollLoop k s).seq = .idle := by
  induction k generalizing s with
  | zero => exact ⟨rfl, rfl⟩
  | succ k ih =>
    rw [pollLoop_succ]
    split_ifs
    · exact ⟨rfl, rfl⟩
    · exact ⟨rfl, rfl⟩
    · exact ⟨rfl, rfl⟩
    · exact ih _

/-! ## The deadline (R164) -/

/-- The most status queries, spaced by the poll interval, take at least the timeout. -/
theorem tTimeoutUs_le_pollBound_mul (c : Config) (h : 0 < c.tPollUs) : c.tTimeoutUs ≤ pollBound c * c.tPollUs := by
  rw [pollBound, ← Nat.ceilDiv_eq_add_pred_div, Nat.mul_comm]
  exact le_smul_ceilDiv h

/-- Where the time elapsed and the waits of `k` passes reach the timeout, the deadline test after them passes, so more passes allowed
make no difference. -/
theorem pollLoop_add (more k : Nat) (s : State) (helapsed : s.t0 + s.cfg.tTimeoutUs ≤ s.now + k * s.cfg.tPollUs) :
    pollLoop (k + more) s = pollLoop k s := by
  induction k generalizing s with
  | zero =>
    cases more with
    | zero => rfl
    | succ more =>
      have hpassed : (readNow s).deadlinePassed = true := by
        simp only [State.deadlinePassed, readNow_cfg, readNow_now, readNow_t0]
        exact decide_eq_true (by omega)
      rw [Nat.zero_add, pollLoop_succ, if_pos hpassed, pollLoop]
  | succ k ih =>
    have hnow : (statusQuery (readNow s)).now = s.now + s.delay + 2 * s.cfg.tCsnUs := cmd_now 0xFF [] (readNow s)
    rw [Nat.succ_add, pollLoop_succ, pollLoop_succ, ih]
    rw [Nat.succ_mul] at helapsed
    simp only [wait_t0, wait_now, wait_cfg, statusQuery_frame, readNow_t0, readNow_cfg, hnow]
    omega

/-! ## The load -/

/-- The events up to the timer, with the last status byte received (R160 to R164). -/
theorem loadAndFire_events (arg : Byte) (s : State) (hcfg : configOk s.cfg = true) : ∃ (st st' r stF : Byte) (ins : List Byte),
    ins.length = (framedPayload s.hdata (transmitLen arg s.payloadSize) s.payloadSize).length ∧
    (loadAndFire arg s).trace = s.trace ++ txn 0x00 st [s.cfg.fill] [cfgRead s] ++
      txn 0x20 st' [cfgRead s &&& ~~~(rxMask s.cfg)] [r] ++ [.ce0, .w 1000] ++ txn 0xE1 stF [] [] ++
      txn 0xA0 (loadAndFire arg s).statusL (framedPayload s.hdata (transmitLen arg s.payloadSize) s.payloadSize) ins ++
      [.ce1, .w 15, .ce0, .t] := by
  obtain ⟨_, _, _, _, _, hsettle, _, hpulse, _⟩ := configOk_spec s.cfg hcfg
  obtain ⟨st, st', r, hmode⟩ := txModeBody_trace s
  obtain ⟨ins, hlen, _, hload, _⟩ := cmd_spec 0xA0 (framedPayload s.hdata (transmitLen arg s.payloadSize) s.payloadSize)
    (flushTxFifo (txModeBody s))
  have hc : (loadedState arg s).cfg = s.cfg := by simp [loadedState]
  have hstatus : (loadAndFire arg s).statusL = (loadedState arg s).statusL := by simp [loadAndFire_eq]
  have htrace : (loadAndFire arg s).trace = (loadedState arg s).trace ++ [.ce1, .w s.cfg.tCePulseUs, .ce0, .t] := by
    simp [loadAndFire_eq, startTimer, pulseCE, hc]
  refine ⟨st, st', r, (flushTxFifo (txModeBody s)).statusL, ins, hlen, ?_⟩
  rw [htrace, hstatus, loadedState, hload, flushTxFifo_trace, hmode, hsettle, hpulse]

/-- Flush and load write no register of the device (R109, R110). -/
theorem loadedState_regs (arg : Byte) (s : State) : (loadedState arg s).dev.regs = (txModeBody s).dev.regs :=
  (cmd_regs_same 0xA0 _ _ (.inl rfl)).trans (flushTxFifo_regs _)

/-- Pulse and timer leave the device as the load left it (R163, R164). -/
theorem loadAndFire_dev (arg : Byte) (s : State) : (loadAndFire arg s).dev = (loadedState arg s).dev := by simp [loadAndFire_eq]

/-- The mode switch's two values of MODE, then the pulse's two (R163, R146). -/
theorem loadAndFire_modes (arg : Byte) (s : State) (h : s.cfg.rxmodeBit ≠ s.cfg.powerBit) :
    (loadAndFire arg s).pwrS = (cfgRead s).getLsbD s.cfg.powerBit ∧ (loadAndFire arg s).rxS = false ∧ (loadAndFire arg s).ce = false ∧
    (loadAndFire arg s).modes.map Prod.snd = s.modes.map Prod.snd ++
      [modeOf (loadAndFire arg s).pwrS false s.ce, modeOf (loadAndFire arg s).pwrS false false,
        modeOf (loadAndFire arg s).pwrS false true, modeOf (loadAndFire arg s).pwrS false false] := by
  obtain ⟨_, hpwr, hrx, _, _, hmodes, _⟩ := txModeBody_spec s h
  have hpwr' : (loadAndFire arg s).pwrS = (cfgRead s).getLsbD s.cfg.powerBit := by simp [loadAndFire_eq, loadedState, hpwr]
  refine ⟨hpwr', ?rx, rfl, ?modes⟩
  case rx => simp [loadAndFire_eq, loadedState, hrx]
  case modes =>
    rw [hpwr']
    simp [loadAndFire_eq, loadedState, pulseCE, setCE_spec, hpwr, hrx, hmodes]

/-- After INIT, TRANSMIT is the load, then the poll loop with the bound of R164. -/
theorem exec_transmit_pollBound (arg : Byte) (s : State) (h : s.inited = true) : exec (.transmit arg) s =
    .next (pollLoop (pollBound s.cfg) (loadAndFire arg (accept .transmit s))) :=
  hostOperation_inited .transmit (fun u => pollLoop (pollBound u.cfg) (loadAndFire arg u)) s h

/-! ## The statements -/

/-- Settles O28: the payload is the shorter of `arg` and `payload_size` bytes of `HDATA`, the rest is padding. -/
theorem payloadTruncatedAndPadded : Obligations.PayloadTruncatedAndPadded := fun hdata arg p hp =>
  have hn : transmitLen arg p ≤ p.toNat := Nat.min_le_right _ _
  ⟨framedPayload_length hdata _ p hn hp, fun i _ => framedPayload_getD hdata _ p (hn.trans hp) i⟩

/-- Settles O29: the load leaves one payload queued and register 0x00 written, and the poll loop adds to neither. -/
theorem transmitCompletes : Obligations.TransmitCompletes := by
  intro s arg ⟨hinit, hcfg⟩
  have hexec := exec_transmit_pollBound arg s hinit
  have hstart : (loadAndFire arg (accept .transmit s)).csn = true := by simp [loadAndFire]
  obtain ⟨hcsn, hregs, hqueue⟩ := (Polled.refl hstart).pollLoop (pollBound s.cfg)
  rw [loadAndFire_dev, loadedState_regs] at hregs
  rw [loadAndFire_dev, loadedState_txFifo] at hqueue
  obtain ⟨hbusy, hseq⟩ := pollLoop_idle (pollBound s.cfg) (loadAndFire arg (accept .transmit s))
  obtain ⟨_, hrx, hce, _⟩ := loadAndFire_modes arg (accept .transmit s) (modeBits_ne hcfg)
  obtain ⟨_, _, _, _, _, _, _, _, _, hmode⟩ := txModeBody_spec (accept .transmit s) (modeBits_ne hcfg)
  refine ⟨_, hexec, hbusy, hseq, hcsn, ?ce, ?rx, exec_payloadSize hexec (by simp), exec_inited hexec (by simp),
    ⟨exec_rbyte hexec (by simp), exec_rxbuf hexec (by simp)⟩, exec_sameInputs hexec, hqueue, fun hm c hc => ?cells⟩
  case ce => simpa using hce
  case rx => simpa using hrx
  case cells =>
    obtain ⟨_, hcells⟩ := configCell_written (hmode hm).2
    rw [hregs]
    exact hcells c hc

/-- Settles O30: the events up to the timer, then those of the poll loop, whose bound reaches the timeout. -/
theorem transmitEvents : Obligations.TransmitEvents := by
  intro s arg ⟨hinit, hcfg⟩
  obtain ⟨_, _, _, _, _, _, _, _, htimeout, _, _, _, _, hpoll, _⟩ := configOk_spec s.cfg hcfg
  have hbits (q : Byte) := (statusBits_of_configOk s.cfg q hcfg).2
  have hbound : 100000 ≤ pollBound s.cfg * s.cfg.tPollUs := htimeout.ge.trans (tTimeoutUs_le_pollBound_mul s.cfg hpoll)
  obtain ⟨st, st', r, stF, ins, hlen, hload⟩ := loadAndFire_events arg (accept .transmit s) hcfg
  obtain ⟨hpwr, _⟩ := loadAndFire_modes arg (accept .transmit s) (modeBits_ne hcfg)
  obtain ⟨quiet, last, htrace, hquiet, hend⟩ := pollLoop_spec (pollBound s.cfg) (loadAndFire arg (accept .transmit s)) 0 (by simp)
  have hc : (loadAndFire arg (accept .transmit s)).cfg = s.cfg := by simp
  simp only [accept_trace, accept_cfg, accept_hdata, accept_payloadSize, transmitLen] at hload hlen
  rw [hc, hload] at htrace
  rw [hc] at hquiet
  simp only [hbits] at hquiet
  refine ⟨_, st, cfgRead (accept .transmit s), st', r, stF, (loadAndFire arg (accept .transmit s)).statusL, ins, quiet, last,
    exec_transmit_pollBound arg s hinit, htrace, ?pwr, hlen, hquiet, ?exit⟩
  case pwr =>
    have hkept := mask_clear_bit (cfgRead (accept .transmit s)) s.cfg.rxmodeBit s.cfg.powerBit
    rw [if_neg (modeBits_ne hcfg).symm] at hkept
    rw [rxMask, hkept]
    simpa using hpwr
  case exit =>
    have hk : pollBound s.cfg = (100000 + s.cfg.tPollUs - 1) / s.cfg.tPollUs := by rw [pollBound, htimeout]
    cases hend with
    | success stQ stC rC h5 hr hs hn =>
      rw [hc, (hbits stQ).1] at h5
      exact .inl ⟨stQ, stC, rC, h5, by rw [hc], hr, hs, hk ▸ hn⟩
    | maxRt stQ stC rC stE h5 h4 hr hs hn =>
      rw [hc, (hbits stQ).1] at h5
      rw [hc, (hbits stQ).2] at h4
      exact .inr (.inl ⟨stQ, stC, rC, stE, h5, h4, by rw [hc], hr, hs, hk ▸ hn⟩)
    | timeout hr hs hd hn =>
      have ht0 : (pollLoop (pollBound s.cfg) (loadAndFire arg (accept .transmit s))).t0 = (loadAndFire arg (accept .transmit s)).t0 := by
        simp only [pollLoop_frame]
      rw [hc, htimeout] at hd
      exact .inr (.inr ⟨rfl, hr, hs, by rw [ht0]; omega, hk ▸ hn⟩)

/-- Settles O31: the poll loop writes neither `CE` nor a shadow. -/
theorem transmitModeTransients : Obligations.TransmitModeTransients := by
  intro s arg ⟨hinit, hcfg⟩
  obtain ⟨_, hrx, hce, hmodes⟩ := loadAndFire_modes arg (accept .transmit s) (modeBits_ne hcfg)
  refine ⟨_, (loadAndFire arg (accept .transmit s)).pwrS, exec_transmit_pollBound arg s hinit, ?pwr, ?rx, ?ce, ?modes⟩
  case pwr => simp
  case rx => simpa using hrx
  case ce => simpa using hce
  case modes => simpa using hmodes

/-- Settles O35: the timer starts at the time then read, and the passes allowed wait for the timeout at least. -/
theorem pollLoopEndsByDeadline : Obligations.PollLoopEndsByDeadline := by
  intro s arg more ⟨_, hcfg⟩
  obtain ⟨_, _, _, _, _, _, _, _, _, _, _, _, _, hpoll, _⟩ := configOk_spec s.cfg hcfg
  have htime := tTimeoutUs_le_pollBound_mul s.cfg hpoll
  have hc : (loadAndFire arg s).cfg = s.cfg := by simp
  refine pollLoop_add more (pollBound s.cfg) (loadAndFire arg s) ?_
  rw [loadAndFire_t0, hc]
  omega

end Sys2Proof.Machine
end

section
/-! RECEIVE straight after a successful RECEIVE (R174): with a trusted device and a quiet radio a flag once cleared stays so, and the
status byte shows it. -/

namespace Sys2Proof.Machine

/-! ## What a quiet radio leaves of the flags (R34) -/

/-- A register write with room for its bytes, to another register than the status register, leaves them (R107). -/
theorem regWriteBlock_flags_quiet (a : Byte) (bs : List Byte) (s : State) (hr : reservedAddr (a.setWidth 5) = false)
    (hw : bs.length ≤ (regWidth (a.setWidth 5)).getD 32) (h7 : a.setWidth 5 ≠ (0x07 : BitVec 5)) (hq : s.QuietFor (bs.length + 1)) :
    (regWriteBlock a bs s).dev.flags = s.dev.flags := by
  have hframe := frameOf_quiet (writeByte a) bs s hq
  have hdev : (regWriteBlock a bs s).dev = (deviceActs (writeByte a) bs (frameOf (writeByte a) bs s)).dev := by
    simp [regWriteBlock, cmd_eq]
  rw [hdev, ← hframe, deviceActs, decodeBus_writeByte]
  cases bs with
  | nil => rfl
  | cons v vs =>
    have hfits : (reservedAddr (a.setWidth 5) || decide ((regWidth (a.setWidth 5)).getD 32 < (v :: vs).length)) = false := by
      simp only [hr, Nat.not_lt.mpr hw, decide_false, Bool.or_false]
    simp only [registerWritten, hfits, if_neg h7, Bool.false_eq_true, if_false]

variable (s : State)

theorem rxModeBody_flags_quiet (h : s.QuietFor 4) : (rxModeBody s).dev.flags = s.dev.flags := by
  have hread : (regRead 0x00 s).dev = s.dev := regReadBlock_quiet 0x00 1 s (quietFor_le h (by decide))
  have hwrite := regWriteBlock_flags_quiet 0x00 [cfgWritten (rxMask s.cfg) 0x00 s] (regRead 0x00 s) rfl (show 1 ≤ _ by decide)
    (by decide) (quietFor_after (m := 2) h (by simp) (by simp))
  exact hwrite.trans (congrArg Device.flags hread)

/-- The status byte of a trusted device with a quiet radio shows its data-ready flag, set or not (R33, R38). -/
theorem cmd_status_dataReady_quiet (c : Byte) (out : List Byte) (ht : s.trusts = true) (hcfg : configOk s.cfg = true)
    (h : s.QuietFor 1) : (cmd c out s).statusL.getLsbD 6 = s.dev.flags.dataReady := by
  obtain ⟨_, _, _, _, _, _, _, _, _, h6, h5, h4, _⟩ := configOk_spec s.cfg hcfg
  have hbit : ∀ (low : Byte) (dr ds mr : Bool), (putBit (putBit (putBit low 6 dr) 5 ds) 4 mr).getLsbD 6 = dr := by decide
  have ht' : (takeAnswer (holdCSN (setCSN false s))).trusts = true := ht
  have hdev : (takeAnswer (holdCSN (setCSN false s))).dev = s.dev := by
    rw [takeAnswer_dev, answer_quiet 0 (holdCSN (setCSN false s)) h, radioActs_quiet]
    rfl
  have hreply : (cmd c out s).statusL = statusReply (takeAnswer (holdCSN (setCSN false s))) s.answer.byte := by
    simp [cmd, xferCommand, State.answer]
  rw [hreply, statusReply, if_pos ht', hdev, statusByte, takeAnswer_cfg, holdCSN_cfg, setCSN_cfg, h6, h5, h4]
  exact hbit _ _ _ _

/-- The status byte RECEIVE decides by is that of the device it began with, where the radio is quiet (R171). -/
theorem receiveQuery_statusL_quiet (hs : s.Synced) (h : s.QuietFor 5) :
    (receiveQuery s).statusL.getLsbD 6 = s.dev.flags.dataReady := by
  obtain ⟨hconf, hinit, hcfg, _⟩ := hs
  have hstatus := cmd_status_dataReady_quiet (rxModeBody (accept .receive s)) 0xFF [] (by simp [State.trusts, hconf, hinit])
    (by simpa using hcfg) (quietFor_after (m := 4) h (by simp) (by simp [rxModeBody]))
  exact hstatus.trans (congrArg Flags.dataReady (rxModeBody_flags_quiet (accept .receive s) (quietFor_le h (by decide))))

/-! ## The success exit -/

/-- A RECEIVE that returns 1 took the success exit (R173, R174). -/
theorem receive_success {arg : Byte} {s t : State} (h : s.Ready) (ht : exec (.receive arg) s = .next t) (hr : t.result = true) :
    t = readPayload (receiveQuery s) := by
  obtain ⟨hinit, hcfg⟩ := h
  have hexit := Host.Outcome.next.inj ((exec_receive arg s hinit).symm.trans ht)
  rw [receiveExit_eq _ (by simpa using hcfg)] at hexit
  split at hexit
  · exact hexit.symm
  · rw [← hexit] at hr
    exact absurd hr Bool.false_ne_true

/-- It made the payload read and the clearing write (R172, R174). -/
theorem readPayload_drawn : (readPayload s).drawn = s.drawn + (s.payloadSize.toNat + 3) := by
  simp [readPayload_eq, payloadRead]
  omega

/-! ## The statement -/

/-- Settles O39: the first RECEIVE cleared the flag, so the second finds it clear and takes the no-data exit. -/
theorem repeatedReceiveReturnsFalse : Obligations.RepeatedReceiveReturnsFalse := by
  intro s t arg arg' hs hquiet hbit ht hr
  have ⟨_, hinit, hcfg, _⟩ := hs
  have hfirst := receive_success ⟨hinit, hcfg⟩ ht hr
  have hclear := (readPayload_receiveQuery_flags s hcfg).1 hbit
  obtain ⟨hsync, _⟩ := hostOperationsKeepModesInStep s t 0x4 arg (.receive arg) (encodeThenDecode (.receive arg) rfl) hs ht
  have hdrawn : t.drawn = s.drawn + (s.payloadSize.toNat + 8) := by
    rw [hfirst, readPayload_drawn]
    simp
    omega
  obtain ⟨_, _, _, _, _, hanswers, _⟩ := exec_sameInputs ht
  have hflag : (receiveQuery t).statusL.getLsbD 6 = false := by
    rw [receiveQuery_statusL_quiet t hsync (quietFor_after (m := s.payloadSize.toNat + 8) hquiet hanswers hdrawn), hfirst,
      hclear]
  obtain ⟨_, hinit', hcfg', _⟩ := hsync
  have hexec := exec_receive arg' t hinit'
  rw [receiveExit_eq _ (by simpa using hcfg'), hflag, if_neg Bool.false_ne_true] at hexec
  exact ⟨_, hexec, rfl, by simp, by simp⟩

end Sys2Proof.Machine
end

section
/-! The configuration operations and GET_STATUS (R190 to R198): after INIT each is one or two transactions, accepted and finished. What a
write leaves alone is said once for every register but 0x00 and the status register; a read that follows returns what was written (R38). -/

namespace Sys2Proof.Machine

/-! ## Sequences of operations (R34, R198) -/

section
variable {s t u : State}

theorem keepsQueues_trans {m n : Nat} (h : KeepsQueues m s t) (h' : KeepsQueues n t u) (ha : t.answers = s.answers)
    (hd : t.drawn = s.drawn + m) : KeepsQueues (m + n) s u := by
  refine ⟨h'.1.trans h.1, fun hq => ?_⟩
  obtain ⟨htx, hrx⟩ := h.2 (quietFor_le hq (Nat.le_add_right m n))
  obtain ⟨htx', hrx'⟩ := h'.2 (quietFor_after hq ha hd)
  exact ⟨htx'.trans htx, hrx'.trans hrx⟩

theorem sameMode_trans (h : SameMode s t) (h' : SameMode t u) : SameMode s u := by
  obtain ⟨hce, hpwr, hrx⟩ := h
  obtain ⟨hce', hpwr', hrx'⟩ := h'
  exact ⟨hce'.trans hce, hpwr'.trans hpwr, hrx'.trans hrx⟩

theorem sameCells_trans {l l' : List Nat} (h : SameCells s t l) (h' : SameCells t u l') : SameCells s u (l ++ l') := by
  intro c hc
  rw [List.mem_append, not_or] at hc
  exact (h' c hc.2).trans (h c hc.1)

end

/-! ## A write with room for its bytes -/

/-- Such a write leaves `CE`, the shadows, the flags and the FIFOs alone, if it is to neither 0x00 nor the status register (R24, R198). -/
theorem regWriteBlock_leaves (a : Byte) (bs : List Byte) (s : State) (hr : reservedAddr (a.setWidth 5) = false)
    (hw : bs.length ≤ (regWidth (a.setWidth 5)).getD 32) (h7 : a.setWidth 5 ≠ (0x07 : BitVec 5))
    (h0 : a.setWidth 5 ≠ (0x00 : BitVec 5)) : SameMode s (regWriteBlock a bs s) ∧ KeepsFlags s (regWriteBlock a bs s) ∧
      KeepsQueues (bs.length + 1) s (regWriteBlock a bs s) := by
  obtain ⟨hpwr, hrx, _⟩ := regWriteBlock_shadows_same a bs s (.inl h0)
  obtain ⟨g, hg⟩ := regWriteBlock_flags a bs s hr hw h7
  exact ⟨⟨by simp, hpwr, hrx⟩, keepsFlags_of_orFlags _ _ g hg, regWriteBlock_queues a bs s hr hw⟩

theorem regWrite_leaves (a v : Byte) (s : State) (hr : reservedAddr (a.setWidth 5) = false)
    (h7 : a.setWidth 5 ≠ (0x07 : BitVec 5)) (h0 : a.setWidth 5 ≠ (0x00 : BitVec 5)) :
    SameMode s (regWrite a v s) ∧ KeepsFlags s (regWrite a v s) ∧ KeepsQueues 2 s (regWrite a v s) := by
  have hwidth : ∀ b : BitVec 5, 1 ≤ (regWidth b).getD 32 := by decide
  exact regWriteBlock_leaves a [v] s hr (hwidth _) h7 h0

/-- A one-byte write stores its byte in the register's first cell and leaves every other cell (R107). -/
theorem regWrite_stores (a v : Byte) (s : State) (hr : reservedAddr (a.setWidth 5) = false)
    (h7 : a.setWidth 5 ≠ (0x07 : BitVec 5)) (hm : Memory.wf s.dev.regs = true) :
    (regWrite a v s).devReg (a.setWidth 5) 0 = v ∧ SameCells s (regWrite a v s) [cellOf (a.setWidth 5) 0] :=
  ⟨(regWrite_read a v s hr h7 hm _).trans (if_pos rfl),
    fun c hc => (regWrite_read a v s hr h7 hm c).trans (if_neg (by simpa using hc))⟩

/-- The bytes of one register are no cells of another: a register has 32 cell numbers (R36). -/
theorem cellOf_not_mem_register {a b : BitVec 5} (hab : a ≠ b) {i n : Nat} (hi : i < 32) (hn : n ≤ 32) :
    cellOf a i ∉ (List.range n).map (cellOf b) := by
  intro hmem
  obtain ⟨j, hj, heq⟩ := List.mem_map.mp hmem
  have hj32 : j < 32 := (List.mem_range.mp hj).trans_le hn
  simp only [cellOf] at heq
  exact hab (BitVec.eq_of_toNat_eq (by omega))

/-! ## What runs after INIT -/

/-- SET_PAYLOAD_SIZE, accepted, with the engine's register written and the device's not yet (R192). -/
def resized (arg : Byte) (s : State) : State :=
  { accept .setPayloadSize s with payloadSize := BitVec.ofNat 6 (max 1 (min arg.toNat 32)) }

section
variable (arg : Byte) (s : State) (h : s.Ready)
include h

theorem exec_setChannel : exec (.setChannel arg) s =
    .next (finish true (regWrite 0x05 (BitVec.ofNat 8 (min arg.toNat 125)) (accept .setChannel s))) := by
  obtain ⟨hinit, hcfg⟩ := h
  obtain ⟨_, _, _, hmax, _⟩ := configOk_spec s.cfg hcfg
  rw [← hmax]
  exact hostOperation_inited .setChannel (fun u => finish true (regWrite 0x05 (channelOf u.cfg arg) u)) s hinit

theorem exec_setPayloadSize : exec (.setPayloadSize arg) s =
    .next (finish true (regWrite 0x11 (BitVec.ofNat 8 (max 1 (min arg.toNat 32))) (resized arg s))) := by
  obtain ⟨hinit, hcfg⟩ := h
  obtain ⟨hmin, hmax, _⟩ := configOk_spec s.cfg hcfg
  have hclamp : clampedSize s.cfg arg = max 1 (min arg.toNat 32) := by rw [clampedSize, hmin, hmax]
  rw [resized, ← hclamp]
  exact hostOperation_inited .setPayloadSize (fun u => finish true (regWrite 0x11 (BitVec.ofNat 8 (clampedSize u.cfg arg))
    { u with payloadSize := BitVec.ofNat 6 (clampedSize u.cfg arg) })) s hinit

theorem exec_setAddress : exec (.setAddress arg) s =
    .next (finish true (regWriteBlock 0x0A (s.hdata.toList.take 5)
      (regWriteBlock 0x10 (s.hdata.toList.take 5) (accept .setAddress s)))) := by
  obtain ⟨hinit, hcfg⟩ := h
  obtain ⟨_, _, _, _, haddrLen, _⟩ := configOk_spec s.cfg hcfg
  rw [← haddrLen]
  exact hostOperation_inited .setAddress (fun u => finish true (regWriteBlock 0x0A (addressOf u.cfg u.hdata)
    (regWriteBlock 0x10 (addressOf u.cfg u.hdata) u))) s hinit

theorem exec_getStatus : exec (.getStatus arg) s =
    .next (finish true { cmd 0xFF [] (accept .getStatus s) with rbyte := (cmd 0xFF [] (accept .getStatus s)).statusL }) :=
  hostOperation_inited .getStatus (fun u => finish true { statusQuery u with rbyte := (statusQuery u).statusL }) s h.1

end

/-! ## The two address writes (R194) -/

section
variable (bs : List Byte) (s : State) (hlen : bs.length = 5)
include hlen

/-- They leave alone what each does. -/
theorem addressWrites_leave : SameMode s (regWriteBlock 0x0A bs (regWriteBlock 0x10 bs s)) ∧
    KeepsFlags s (regWriteBlock 0x0A bs (regWriteBlock 0x10 bs s)) ∧
    KeepsQueues 12 s (regWriteBlock 0x0A bs (regWriteBlock 0x10 bs s)) := by
  obtain ⟨hmode, hflags, hqueues⟩ := regWriteBlock_leaves 0x10 bs s rfl hlen.le (by decide) (by decide)
  obtain ⟨hmode', hflags', hqueues'⟩ :=
    regWriteBlock_leaves 0x0A bs (regWriteBlock 0x10 bs s) rfl hlen.le (by decide) (by decide)
  rw [hlen] at hqueues hqueues'
  exact ⟨sameMode_trans hmode hmode', keepsFlags_trans hflags hflags',
    keepsQueues_trans hqueues hqueues' (by simp) (by simp [hlen])⟩

/-- Both registers hold the bytes, the second write having no cell of the first register, and no other cell changed. -/
theorem addressWrites_store (hm : Memory.wf s.dev.regs = true) :
    (∀ i, i < 5 → (regWriteBlock 0x0A bs (regWriteBlock 0x10 bs s)).devReg 0x10 i = bs.getD i 0 ∧
      (regWriteBlock 0x0A bs (regWriteBlock 0x10 bs s)).devReg 0x0A i = bs.getD i 0) ∧
    SameCells s (regWriteBlock 0x0A bs (regWriteBlock 0x10 bs s))
      ((List.range 5).map (cellOf 0x10) ++ (List.range 5).map (cellOf 0x0A)) := by
  have hm' := regWriteBlock_wf 0x10 bs s hm
  have hcells := regWriteBlock_sameCells 0x10 bs s rfl hlen.le (by decide) hm
  have hcells' := regWriteBlock_sameCells 0x0A bs (regWriteBlock 0x10 bs s) rfl hlen.le (by decide) hm'
  rw [hlen] at hcells hcells'
  refine ⟨fun i hi => ⟨?transmit, ?receive⟩, sameCells_trans hcells hcells'⟩
  case transmit =>
    have hfirst := regWriteBlock_devReg 0x10 bs s rfl hlen.le (by decide) hm i (hi.trans_eq hlen.symm)
    exact (hcells' _ (cellOf_not_mem_register (by decide) (by omega) (by decide))).trans hfirst
  case receive =>
    exact regWriteBlock_devReg 0x0A bs (regWriteBlock 0x10 bs s) rfl hlen.le (by decide) hm' i (hi.trans_eq hlen.symm)

end

/-- The bytes of the address operand are those of `HDATA` (R194). -/
theorem take_hdata_getD (hdata : Vector Byte 32) (n i : Nat) (hi : i < n) :
    (hdata.toList.take n).getD i 0 = hdata.toList.getD i 0 := by
  simp only [List.getD_eq_getElem?_getD, List.getElem?_take_of_lt hi]

/-! ## Reading back (R38) -/

/-- READ_REGISTER straight after an instruction other than INIT returns the register's bytes, where the device returns what was
written. -/
theorem readRegister_dataIn_after {i : Instr} {a : Byte} {s t u : State} (hs : storesBytes (a.setWidth 5) = true)
    (hc : s.conforming = true) (hinit : s.inited = true) (hw : s.callLen.val ≤ (regWidth (a.setWidth 5)).getD 0)
    (hi : ∀ arg, i ≠ .init arg) (ht : exec i s = .next t) (hu : exec (.readRegister a) t = .next u) :
    u.dataIn = (List.range s.callLen.val).map (t.devReg (a.setWidth 5)) := by
  obtain ⟨_, hcall, _, _, hconf, _⟩ := exec_sameInputs ht
  have htrust : t.trusts = true := by simp [State.trusts, hconf, hc, exec_inited ht hi, hinit]
  obtain rfl := Host.Outcome.next.inj hu
  rw [hcall]
  exact regReadBlock_trusted a s.callLen.val t hs htrust hw

/-! ## The statements -/

/-- Settles O40: one write to register 0x05, accepted and finished. -/
theorem setChannelCompletes : Obligations.SetChannelCompletes := by
  intro s arg h
  have hexec := exec_setChannel arg s h
  obtain ⟨r, htrace⟩ := regWrite_spec 0x05 (BitVec.ofNat 8 (min arg.toNat 125)) (accept .setChannel s)
  obtain ⟨hmode, hflags, hqueues⟩ := regWrite_leaves 0x05 (BitVec.ofNat 8 (min arg.toNat 125)) (accept .setChannel s) rfl
    (by decide) (by decide)
  exact ⟨_, _, r, hexec, htrace, ⟨rfl, rfl, rfl, by simp⟩, rfl, hmode, exec_payloadSize hexec (by simp),
    exec_inited hexec (by simp), by simp, by simp, ⟨exec_rbyte hexec (by simp), exec_rxbuf hexec (by simp)⟩,
    exec_sameInputs hexec, hflags, hqueues,
    regWrite_stores 0x05 (BitVec.ofNat 8 (min arg.toNat 125)) (accept .setChannel s) rfl (by decide)⟩

/-- Settles O41: the size goes to the engine's register, then one write takes it to the device's. -/
theorem setPayloadSizeCompletes : Obligations.SetPayloadSizeCompletes := by
  intro s arg h
  have hexec := exec_setPayloadSize arg s h
  obtain ⟨r, htrace⟩ := regWrite_spec 0x11 (BitVec.ofNat 8 (max 1 (min arg.toNat 32))) (resized arg s)
  obtain ⟨hmode, hflags, hqueues⟩ := regWrite_leaves 0x11 (BitVec.ofNat 8 (max 1 (min arg.toNat 32))) (resized arg s) rfl
    (by decide) (by decide)
  exact ⟨_, _, r, hexec, htrace, ⟨rfl, rfl, rfl, by simp⟩, rfl, by simp [resized], hmode, exec_inited hexec (by simp),
    by simp [resized], by simp [resized], ⟨exec_rbyte hexec (by simp), exec_rxbuf hexec (by simp)⟩, exec_sameInputs hexec, hflags,
    hqueues, regWrite_stores 0x11 (BitVec.ofNat 8 (max 1 (min arg.toNat 32))) (resized arg s) rfl (by decide)⟩

/-- Settles O42: two five-byte writes, the transmit address first. -/
theorem setAddressCompletes : Obligations.SetAddressCompletes := by
  intro s arg h
  have hexec := exec_setAddress arg s h
  have hlen : (s.hdata.toList.take 5).length = 5 := length_take_hdata s.hdata 5
  obtain ⟨ins, hins, htrace, _⟩ := regWriteBlock_spec 0x10 (s.hdata.toList.take 5) (accept .setAddress s)
  obtain ⟨ins', hins', htrace', _, _, hcsn⟩ :=
    regWriteBlock_spec 0x0A (s.hdata.toList.take 5) (regWriteBlock 0x10 (s.hdata.toList.take 5) (accept .setAddress s))
  rw [htrace] at htrace'
  obtain ⟨hmode, hflags, hqueues⟩ := addressWrites_leave (s.hdata.toList.take 5) (accept .setAddress s) hlen
  refine ⟨_, _, ins, _, ins', hexec, hins.trans hlen, hins'.trans hlen, htrace', ⟨rfl, rfl, rfl, hcsn⟩, rfl, hmode,
    exec_payloadSize hexec (by simp), exec_inited hexec (by simp), by simp, by simp,
    ⟨exec_rbyte hexec (by simp), exec_rxbuf hexec (by simp)⟩, exec_sameInputs hexec, hflags, hqueues, fun hm => ?stored⟩
  case stored =>
    obtain ⟨hbytes, hcells⟩ := addressWrites_store (s.hdata.toList.take 5) (accept .setAddress s) hlen hm
    refine ⟨fun i hi => ?_, hcells⟩
    rw [← take_hdata_getD s.hdata 5 i hi]
    exact hbytes i hi

/-- Settles O43: the no-op's exchange, with its status byte copied to `RBYTE`. -/
theorem getStatusCompletes : Obligations.GetStatusCompletes := by
  intro s arg h
  have hexec := exec_getStatus arg s h
  obtain ⟨st, htrace, hst, hcsn, _, _, _, hshadows⟩ := cmd_nil_completes 0xFF (accept .getStatus s)
  obtain ⟨hpwr, hrx, _⟩ := hshadows
  obtain ⟨hcells, hflags⟩ := cmd_keepsRegisters 0xFF [] (accept .getStatus s) (.inr (.inr (.inr (.inl rfl))))
  obtain ⟨hrxlen, hrxbuf⟩ := exec_rxbuf hexec (by simp)
  exact ⟨_, st, hexec, htrace, ⟨rfl, rfl, rfl, hcsn⟩, hst, hst, ⟨exec_ce hexec (by simp), hpwr, hrx⟩,
    exec_payloadSize hexec (by simp), exec_inited hexec (by simp), by simp, by simp, hrxlen, hrxbuf, exec_sameInputs hexec, hcells,
    hflags, cmd_queues 0xFF [] (accept .getStatus s) (.inl rfl)⟩

/-- Settles O44: the read returns the cell, which holds the clamped size. -/
theorem payloadSizeReadback : Obligations.PayloadSizeReadback := by
  intro s t u arg h hc hm hlen ht hu
  have hread := readRegister_dataIn_after rfl hc h.1 (by rw [hlen]; decide) (by simp) ht hu
  rw [hlen] at hread
  obtain rfl := Host.Outcome.next.inj ((exec_setPayloadSize arg s h).symm.trans ht)
  obtain ⟨hcell, _⟩ := regWrite_stores 0x11 (BitVec.ofNat 8 (max 1 (min arg.toNat 32))) (resized arg s) rfl (by decide) hm
  exact hread.trans (congrArg (fun b => [b]) hcell)

/-- Settles O45: so it does for either address register, whose cells hold the five bytes. -/
theorem addressReadback : Obligations.AddressReadback := by
  intro s t u arg a h hc hm hlen ha ht hu
  have hbs : (s.hdata.toList.take 5).length = 5 := length_take_hdata s.hdata 5
  obtain ⟨hbytes, _⟩ := addressWrites_store (s.hdata.toList.take 5) (accept .setAddress s) hbs hm
  have hregister : storesBytes (a.setWidth 5) = true ∧ 5 ≤ (regWidth (a.setWidth 5)).getD 0 ∧
      ∀ i, i < 5 → t.devReg (a.setWidth 5) i = (s.hdata.toList.take 5).getD i 0 := by
    obtain rfl := Host.Outcome.next.inj ((exec_setAddress arg s h).symm.trans ht)
    obtain rfl | rfl := ha
    · exact ⟨rfl, by decide, fun i hi => (hbytes i hi).1⟩
    · exact ⟨rfl, by decide, fun i hi => (hbytes i hi).2⟩
  obtain ⟨hs, hw, hcells⟩ := hregister
  rw [readRegister_dataIn_after hs hc h.1 (by rw [hlen]; exact hw) (by simp) ht hu, hlen]
  refine List.ext_getElem (by simp) fun i hi hi' => ?_
  rw [List.getElem_map, List.getElem_range, hcells i (hi'.trans_eq hbs), List.getD_eq_getElem _ _ hi']

end Sys2Proof.Machine
end

section
/-! The host port and the ends of operations (R200, R206, R214, R220, R224): when a step does nothing or is refused, what it runs, and
that an instruction ends. -/

namespace Sys2Proof.Machine

/-! ## Steps -/

/-- R214: a step asks for an idle engine before it looks at anything else. -/
theorem step_of_busy (s : State) (h : s.busy = true) : step s = .refused .requestWhileBusy := by
  rw [step, if_pos h]

/-- R224: without a move the host leaves a configured idle engine as it was. -/
theorem step_of_no_move (s : State) (hidle : s.busy = false) (hcfg : configOk s.cfg = true) (hhost : s.host = []) :
    step s = .next s := by
  simp [step, hidle, hcfg, nextMove, hhost]

/-- R205: a code that decodes is run as its instruction where its preconditions hold. -/
theorem runCode_of_ok {c : Code} {i : Instr} {s : State} (h : decode c = .ok i) (hallows : s.Allows c) :
    runCode c s = exec i s := by
  simp only [runCode, h, (unmet_eq_none c s).mpr hallows]

/-! ## The last transaction of a trace -/

/-- A transaction with a data byte has an exchange where one without has its selection, so a trace does not end with both. -/
theorem append_txn_data_ne (pre pre' : List Event) (c st c' st' o i : Byte) :
    pre ++ txn c st [o] [i] ≠ pre' ++ txn c' st' [] [] := by
  intro h
  have hdata : pre ++ txn c st [o] [i] = pre ++ [.sel] ++ [.x c st] ++ [.x o i, .desel] := by simp [txn]
  have hbare : pre' ++ txn c' st' [] [] = pre' ++ [.sel] ++ [.x c' st', .desel] := by simp [txn]
  rw [hdata, hbare] at h
  obtain ⟨hbefore, _⟩ := List.append_inj' h rfl
  obtain ⟨_, hevent⟩ := List.append_inj' hbefore rfl
  cases hevent

/-! ## The statements -/

/-- Settles O55: the first status byte takes the success exit, whose last transaction writes a byte, where the max-retransmit exit's is
a bare flush. -/
theorem bothFlagsCountAsSuccess : Obligations.BothFlagsCountAsSuccess := by
  intro s arg h hc hp hd h5 _
  obtain ⟨k, hk⟩ := exec_transmit_query arg s h hd
  rw [firstQuery_statusL arg s hc hp, if_pos h5] at hk
  refine ⟨_, hk, rfl, fun stC rC stE ⟨pre, hpre⟩ => ?_⟩
  obtain ⟨r, htrace⟩ := clearFlags_spec (firstQuery arg s).cfg.clrDs (firstQuery arg s)
  exact append_txn_data_ne _ _ _ _ _ _ _ _ (htrace.symm.trans hpre)

/-- Settles O7: what decodes is well formed (R60, R81), and the step runs the code presented. -/
theorem stepRunsWhatIsPresented : Obligations.StepRunsWhatIsPresented := by
  intro s c len data rest i hidle hcfg hhost hdecode hallows
  obtain ⟨hwf, _⟩ := decodeThenEncode c i hdecode
  exact ⟨hwf, (step_of_present hidle hcfg hhost).trans (runCode_of_ok hdecode hallows)⟩

/-- Settles O8: `nextMove` finds no move. -/
theorem idleEngineDoesNothing : Obligations.IdleEngineDoesNothing := step_of_no_move

/-- Settles O9: the first branch of `step`. -/
theorem noMoveWhileBusy : Obligations.NoMoveWhileBusy := step_of_busy

/-- Settles O50: each arm of `exec` answers a next state, a bus command's by its transaction and a host operation's whatever its body; no
premise is needed. -/
theorem everyInstructionEnds : Obligations.EveryInstructionEnds := by
  intro i s _
  cases i with
  | readRegister | writeRegister | readRxPayload | writeTxPayload | flushTx | flushRx | reuseTxPayload | nop => exact ⟨_, rfl⟩
  | init | setTxMode | setRxMode | transmit | receive | setChannel | setPayloadSize | setAddress | getStatus | powerUp | powerDown =>
    exact ⟨_, rfl⟩

end Sys2Proof.Machine
end

section
/-! The steps that reset the engine or refuse what it is asked (R230, R231, R236, R239): each branch of `step`, then the statements. -/

namespace Sys2Proof.Machine

section
variable {s u : State} {c : Code} {len : Fin 33} {data : Vector Byte 32} {events : Nat} {rest : List HostMove}

/-! ## Reset -/

/-- R230: an idle engine's reset takes the move off the host's list and leaves all else to `resetEngine`. -/
theorem step_of_reset (hidle : s.busy = false) (hcfg : configOk s.cfg = true) (hhost : s.host = .reset :: rest) :
    step s = .next (resetEngine { s with host := rest }) := by
  simp [step, hidle, hcfg, nextMove, hhost]

/-- R231: a reset inside an operation whose run ends in `u` cuts that run. -/
theorem step_of_presentThenReset (hidle : s.busy = false) (hcfg : configOk s.cfg = true)
    (hhost : s.host = .presentThenReset c len data events :: rest)
    (hrun : runCode c (presented len data { s with host := rest }) = .next u) :
    step s = .next (resetInside events { s with host := rest } u) := by
  rw [step, if_neg (by simp [hidle]), if_pos hcfg, nextMove, hhost]
  simp only [List.head?_cons, List.tail_cons, hrun]

/-- The one value of R45 that reset takes from the record (R9). -/
theorem resetEngine_payloadSize (hcfg : configOk s.cfg = true) : (resetEngine s).payloadSize = 32 := by
  obtain ⟨_, _, hdefault, _⟩ := configOk_spec s.cfg hcfg
  rw [resetEngine, hdefault]
  rfl

/-- The operation's events up to the cut, then the two line levels (R231). -/
theorem resetInside_trace (events : Nat) {es : List Event} (h : u.trace = s.trace ++ es) :
    (resetInside events s u).trace = s.trace ++ es.take events ++ [.desel, .ce0] := by
  have hcut : (resetInside events s u).trace = u.trace.take (s.trace.length + events) ++ [.desel, .ce0] := rfl
  rw [hcut, h, List.take_length_add_append]

/-! ## Unmet preconditions -/

/-- A code that is an instruction is refused by the name of the precondition it does not meet. -/
theorem runCode_of_unmet {i : Instr} {r : Refusal} (h : decode c = .ok i) (hr : unmet c s = some r) : runCode c s = .refused r := by
  simp only [runCode, h, hr]

theorem unmet_beforeInit (hneeds : needsInit c = true) (h : s.inited = false) : unmet c s = some .beforeInit := by
  simp [unmet, hneeds, h]

/-- INIT is asked for first, so the widths are looked at only after it. -/
theorem unmet_widthsDisagree (hinit : s.inited = true) (hneeds : needsWidth c = true) (h : s.widthAgrees = false) :
    unmet c s = some .widthsDisagree := by
  simp [unmet, hinit, hneeds, h]

/-- The eleven operation codes are those up to 0xA (R82, R84). -/
theorem exists_decode_of_op_le {op : BitVec 4} (arg : Byte) (h : op.toNat ≤ 0xA) : ∃ i, decode (.host (hostWord op arg)) = .ok i := by
  have hop := hostOp_toNat (hostWord op arg)
  rw [hostOp_hostWord] at hop
  have hsome : decodeHost (hostWord op arg) ≠ none := mt (decodeHost_eq_none _).mp (by omega)
  obtain ⟨i, hi⟩ := Option.ne_none_iff_exists'.mp hsome
  exact ⟨i, (decode_host_eq_ok _ i).mpr hi⟩

end

/-! ## The statements -/

/-- Settles O11: reset writes the engine's registers and the two levels, and nothing of the device. -/
theorem resetBetweenOperations : Obligations.ResetBetweenOperations := fun _ _ hidle hcfg hhost =>
  ⟨_, step_of_reset hidle hcfg hhost, resetEngine_payloadSize hcfg, rfl, rfl, rfl, rfl, rfl, rfl, rfl, rfl, rfl, rfl, rfl, rfl, rfl, rfl,
    rfl⟩

/-- Settles O12: the operation only adds events and leaves the inputs and the record, so its cut begins with the events before it. -/
theorem resetInsideOperation : Obligations.ResetInsideOperation := by
  intro s u c len data events rest i hidle hcfg hhost hdecode hallows hexec
  obtain ⟨_, _, hrest, hrecord, _⟩ := exec_sameInputs hexec
  obtain ⟨_, ⟨es, hes⟩, _, _⟩ := exec_grows hexec
  have hrun : runCode c (presented len data { s with host := rest }) = .next u :=
    (runCode_of_ok (s := presented len data { s with host := rest }) hdecode hallows).trans hexec
  have hsize : (resetInside events { s with host := rest } u).payloadSize = 32 :=
    resetEngine_payloadSize ((congrArg configOk hrecord).trans hcfg)
  exact ⟨_, step_of_presentThenReset hidle hcfg hhost hrun, hsize, rfl, rfl, rfl, rfl, rfl, rfl, rfl, rfl, hrest, hrecord, es,
    hes.symm, resetInside_trace events hes.symm⟩

/-- Settles O56: every word up to 0xA decodes, so the refusal is of the precondition; INIT has none. -/
theorem unmetPreconditionsRefused : Obligations.UnmetPreconditionsRefused := by
  intro s op arg len data rest hidle hcfg hhost
  have hstep := step_of_present hidle hcfg hhost
  refine ⟨fun hinit hlow hhigh => ?beforeInit, fun hop => ?init, fun hinit hop hwidth => ?widths⟩
  case beforeInit =>
    obtain ⟨i, hi⟩ := exists_decode_of_op_le arg hhigh
    have hop : op ≠ 0x0 := by rintro rfl; exact absurd hlow (by decide)
    have hneeds : needsInit (.host (hostWord op arg)) = true := by simpa [needsInit] using hop
    exact hstep.trans (runCode_of_unmet hi (unmet_beforeInit hneeds hinit))
  case init =>
    subst hop
    have hallows : (presented len data { s with host := rest }).Allows (encode (.init arg)) := by
      simp [encode, State.Allows, needsInit, needsWidth]
    exact hstep.trans (runCode_of_ok (encodeThenDecode (.init arg) rfl) hallows)
  case widths =>
    subst hop
    have hneeds : needsWidth (encode (.receive arg)) = true := by simp [encode, needsWidth]
    exact hstep.trans (runCode_of_unmet (encodeThenDecode (.receive arg) rfl)
      (unmet_widthsDisagree hinit hneeds (decide_eq_false hwidth)))

end Sys2Proof.Machine
end

section
/-! What INIT leaves where the radio is quiet (R149, R235): it empties the FIFOs and clears the flags before the power up, which touches
neither. -/

namespace Sys2Proof.Machine

section
variable (s : State)

/-! ## Transactions of a quiet radio -/

/-- A configuration update leaves the flags and the FIFOs as they were (R34, R141). -/
theorem cfgUpdate_quiet (set clr : Byte) (h : s.QuietFor 4) : (cfgUpdate set clr s).dev.flags = s.dev.flags ∧
    (cfgUpdate set clr s).dev.txFifo = s.dev.txFifo ∧ (cfgUpdate set clr s).dev.rxFifo = s.dev.rxFifo := by
  have hread : (regRead 0x00 s).dev = s.dev := regReadBlock_quiet 0x00 1 s (quietFor_le h (by decide))
  have hquiet : (regRead 0x00 s).QuietFor 2 := quietFor_after (m := 2) h (by simp) (by simp)
  have hflags := regWriteBlock_flags_quiet 0x00 [cfgWritten set clr s] (regRead 0x00 s) rfl (show 1 ≤ _ by decide) (by decide) hquiet
  obtain ⟨htx, hrx⟩ := (regWriteBlock_queues 0x00 [cfgWritten set clr s] (regRead 0x00 s) rfl (show 1 ≤ _ by decide)).2 hquiet
  rw [hread] at hflags htx hrx
  exact ⟨hflags, htx, hrx⟩

/-- A clearing write leaves the FIFOs as they were (R114, R198). -/
theorem clearFlags_queues_quiet (m : Byte) (h : s.QuietFor 2) :
    (clearFlags m s).dev.txFifo = s.dev.txFifo ∧ (clearFlags m s).dev.rxFifo = s.dev.rxFifo :=
  (regWriteBlock_queues 0x07 [m] s rfl (show 1 ≤ _ by decide)).2 h

/-- Flushing the received payloads leaves the transmit FIFO as it was (R111). -/
theorem flushRxFifo_txFifo_quiet (h : s.QuietFor 1) : (flushRxFifo s).dev.txFifo = s.dev.txFifo := by
  have hdecode : decodeBus 0xE2 = some .flushRx := by decide
  simp only [flushRxFifo, cmd_eq, deviceActs, hdecode, frameOf_quiet 0xE2 [] s h]

/-! ## Before the power up -/

theorem flags_eq_clear {f : Flags} (hdr : f.dataReady = false) (hds : f.dataSent = false) (hmr : f.maxRt = false) :
    f = { dataReady := false, dataSent := false, maxRt := false } := by
  cases f
  simpa using And.intro hdr (And.intro hds hmr)

/-- A clearing byte that names the three flags clears them, whatever the radio did (R37). -/
theorem clearFlags_all (m : Byte) (hcfg : configOk s.cfg = true) (hm : m &&& 0x70 = 0x70) :
    (clearFlags m s).dev.flags = { dataReady := false, dataSent := false, maxRt := false } := by
  have hbits : ∀ v : Byte, v &&& 0x70 = 0x70 → v.getLsbD 6 = true ∧ v.getLsbD 5 = true ∧ v.getLsbD 4 = true := by decide
  obtain ⟨h6, h5, h4⟩ := hbits m hm
  obtain ⟨hdr, hds, hmr⟩ := clearFlags_clears s m hcfg
  exact flags_eq_clear (hdr h6) (hds h5) (hmr h4)

/-- One write of two exchanges for each entry (R149). -/
@[simp] theorem writeTable_drawn (es : List (BitVec 5 × Byte)) : (writeTable es s).drawn = s.drawn + 2 * es.length := by
  induction es generalizing s with
  | nil => rfl
  | cons e es ih =>
    rw [writeTable, ih, regWrite_drawn, List.length_cons]
    omega

theorem initWritten_drawn : (initWritten s).drawn = s.drawn + (2 * s.cfg.initTable.length + 2) := by
  simp [initWritten, Nat.add_assoc]

variable (h : s.QuietFor (2 * s.cfg.initTable.length + 10))
include h

/-- The two flushes, the clearing write and the power up make the last eight exchanges of INIT (R149). -/
theorem initWritten_quietFor : (initWritten s).QuietFor 8 :=
  quietFor_after (n := 8) h (by simp [initWritten]) (initWritten_drawn s)

/-- The power up makes the last four. -/
theorem initCleared_quietFor : (initCleared s).QuietFor 4 :=
  quietFor_after (m := 4) (initWritten_quietFor s h) (by simp [initCleared]) (by simp [initCleared])

/-- The flushes and the clearing write of INIT leave nothing queued and no flag set (R149). -/
theorem initCleared_empty (hcfg : configOk s.cfg = true) (hclr : s.cfg.clrAll &&& 0x70 = 0x70) :
    (initCleared s).dev.txFifo = [] ∧ (initCleared s).dev.rxFifo = [] ∧
      (initCleared s).dev.flags = { dataReady := false, dataSent := false, maxRt := false } := by
  have hwritten := initWritten_quietFor s h
  have htxFlushed : (flushTxFifo (initWritten s)).QuietFor 1 :=
    quietFor_after (m := 1) (quietFor_le hwritten (by decide)) (by simp) (by simp)
  have hflushed : (flushRxFifo (flushTxFifo (initWritten s))).QuietFor 2 :=
    quietFor_after (m := 2) (quietFor_le hwritten (by decide)) (by simp) (by simp)
  obtain ⟨htx, hrx⟩ := clearFlags_queues_quiet _ s.cfg.clrAll hflushed
  refine ⟨?tx, hrx.trans (flushRxFifo_empty _), clearFlags_all _ s.cfg.clrAll (by simpa [initWritten] using hcfg) hclr⟩
  case tx =>
    calc (initCleared s).dev.txFifo = (flushRxFifo (flushTxFifo (initWritten s))).dev.txFifo := htx
      _ = (flushTxFifo (initWritten s)).dev.txFifo := flushRxFifo_txFifo_quiet _ htxFlushed
      _ = [] := flushTxFifo_empty _

end

/-- The transmit-configured standby mode says what both shadows and `CE` are (R25). -/
theorem modeOf_eq_standbyTxConfigured (pwr rx ce : Bool) :
    modeOf pwr rx ce = .standbyTxConfigured ↔ pwr = true ∧ rx = false ∧ ce = false := by
  revert pwr rx ce
  decide

/-! ## The statement -/

/-- Settles O27: INIT ends in step with the device and in standby (R146), and the power up leaves empty and clear what it finds so. -/
theorem initEndState : Obligations.InitEndState := by
  intro s arg hconf hcfg hm hclr hquiet
  obtain ⟨t, hexec, _, hwidth, _⟩ := initWritesTheTable s arg hcfg hm
  obtain ⟨⟨_, hinit, _, _, _, hpwrBit, hrxBit, _⟩, hmode⟩ := initEstablishesModesInStep s t arg hconf hcfg hm hexec
  obtain ⟨hpwr, hrx, hce⟩ := (modeOf_eq_standbyTxConfigured _ _ _).mp hmode
  obtain ⟨_, _, _, hrecord, _⟩ := exec_sameInputs hexec
  rw [hpwr, hrecord] at hpwrBit
  rw [hrx, hrecord] at hrxBit
  obtain rfl := Host.Outcome.next.inj ((exec_init arg s).symm.trans hexec)
  obtain ⟨htx, hrxFifo, hflags⟩ := initCleared_empty (accept .init s) hquiet hcfg hclr
  obtain ⟨hflags', htx', hrxFifo'⟩ := cfgUpdate_quiet _ (pwrMask (initCleared (accept .init s)).cfg) 0x00
    (initCleared_quietFor (accept .init s) hquiet)
  exact ⟨_, hexec, hmode, hce, hrx, hpwr, hrxBit.symm, hpwrBit.symm, htx'.trans htx, hrxFifo'.trans hrxFifo, hflags'.trans hflags,
    hwidth, hinit⟩

end Sys2Proof.Machine
end
